-- ==== Sys2Proof/Word.lean ====
section
/-! DEFINITION. The words, indexes and tables of the Lintava 2410 model: widths as 00 (Conventions) and chapters 1 to 10
of the spec give them. -/

namespace Sys2Proof

/-- One byte of a frame, a line or a transaction. -/
abbrev Byte := BitVec 8

/-- A slot of the slot bus, 0 to 5 (00, Terms). -/
abbrev Slot := Fin 6

/-- The index of a staging line, 0 to 7 (R20). -/
abbrev LineIx := Fin 8

/-- The index of a tag, 0 to 15 (R49). -/
abbrev TagIx := Fin 16

/-- The index of a map entry, 0 to 511 (R2). -/
abbrev EntryIx := Fin 512

/-- A host address, 48 bits (00, Conventions; R4). -/
abbrev HostAddr := BitVec 48

/-- A card memory address, 32 bits (00, Conventions). -/
abbrev CardAddr := BitVec 32

/-- A sequence number of the uplink, 0 to 63, counted modulo 64 (R167). -/
abbrev SeqNo := BitVec 6

/-- A time or an interval in units of 0.5 µs, the smallest step any setting has (R35). DESIGN CHOICE, log 3. -/
abbrev Time := Nat

/-- A fixed number of like records, held as the list of them. -/
structure Table (α : Type) (n : Nat) where
  items : List α
  size : items.length = n
  deriving DecidableEq, Repr

namespace Table

/-- The record at an index. -/
def get {α : Type} {n : Nat} (t : Table α n) (i : Fin n) : α :=
  t.items.get (i.cast t.size.symm)

/-- The table with the record at one index replaced. -/
def set {α : Type} {n : Nat} (t : Table α n) (i : Fin n) (x : α) : Table α n :=
  ⟨t.items.set i.val x, by simp [t.size]⟩

/-- The table whose records are all the same. -/
def fill {α : Type} (n : Nat) (x : α) : Table α n :=
  ⟨List.replicate n x, by simp⟩

/-- The table with a function applied to every record. -/
def map {α β : Type} {n : Nat} (f : α → β) (t : Table α n) : Table β n :=
  ⟨t.items.map f, by simp [t.size]⟩

/-- A function of position and record applied along a list, positions counted from `k`. -/
def mapFrom {α β : Type} (f : Nat → α → β) (k : Nat) : List α → List β
  | [] => []
  | x :: xs => f k x :: mapFrom f (k + 1) xs

theorem mapFrom_length {α β : Type} (f : Nat → α → β) (k : Nat) (xs : List α) :
    (mapFrom f k xs).length = xs.length := by
  induction xs generalizing k with
  | nil => rfl
  | cons x xs ih => simp [mapFrom, ih]

/-- The table with a function of index and record applied to every record. -/
def mapIx {α β : Type} {n : Nat} (f : Nat → α → β) (t : Table α n) : Table β n :=
  ⟨mapFrom f 0 t.items, by simp [mapFrom_length, t.size]⟩

/-- The table whose record at index i is f i. -/
def build {α : Type} (n : Nat) (f : Nat → α) : Table α n :=
  ⟨(List.range n).map f, by simp⟩

end Table

end Sys2Proof
end

