-- ==== Sys2Proof/Syntax.lean ====
section
/-! DEFINITION. The commands of the block: one constructor for each row of spec/opcode_table.json, in the table's order.
The table lists no operands; an operand here is what the step's own rule says the event carries. -/

namespace Sys2Proof

/-- The three spaces of the slot bus (R73, R74). -/
inductive Space where
  | memory
  | io
  | identity
  deriving DecidableEq, Repr

/-- The address a slot presents, with its space (R73): 32 bits in MEMORY, 16 in IO, 8 in IDENTITY. -/
inductive BusAddress where
  | memory (a : CardAddr)
  | io (a : BitVec 16)
  | identity (a : BitVec 8)
  deriving DecidableEq, Repr

/-- The space of an address (R73). -/
def BusAddress.space : BusAddress → Space
  | .memory _ => .memory
  | .io _ => .io
  | .identity _ => .identity

/-- Direction and length of a transaction (R73): a read of so many bytes, or a write of these bytes. -/
inductive Transfer where
  | read (length : Nat)
  | write (bytes : List Byte)
  deriving DecidableEq, Repr

/-- The length of a transfer in bytes (R73). -/
def Transfer.length : Transfer → Nat
  | .read n => n
  | .write bytes => bytes.length

/-- The response of a card target (R75): COMPLETE, PARTIAL(n), RETRY or ABORT. -/
inductive Response where
  | complete
  | partly (n : Nat)
  | retry
  | abort
  deriving DecidableEq, Repr

/-- The commands. -/
inductive Instr where
  /-- RESET_N asserted, or power-up (R167 and every block's reset table). -/
  | powerOnReset
  /-- An INIT frame with this payload arrives (R168, R169). -/
  | initReceived (payload : List Byte)
  /-- An ACK frame with this payload arrives (R176). -/
  | ackReceived (payload : List Byte)
  /-- A NAK frame with this payload arrives (R176). -/
  | nakReceived (payload : List Byte)
  /-- A CREDIT frame with this payload arrives (R178). -/
  | creditReceived (payload : List Byte)
  /-- A LINK_RESET frame with this payload (none, R184) arrives (R171). -/
  | linkResetReceived (payload : List Byte)
  /-- A COMMAND frame with these header fields and payload arrives (R155). -/
  | commandReceived (seq ackSeq : SeqNo) (payload : List Byte)
  /-- A MEM_DATA frame with these header fields and payload arrives (R54). -/
  | memDataReceived (seq ackSeq : SeqNo) (payload : List Byte)
  /-- A frame of these bytes arrives that fails the checks of R183 (R172). -/
  | badFrameReceived (bytes : List Byte)
  /-- The receive lane has had no signal for more than 1 ms (R171). -/
  | lossOfSignal
  /-- The 1 ms interval of INIT frames passes (R168). -/
  | initIntervalExpiry
  /-- TrainingDeadline passes (R169). -/
  | trainingDeadlineExpiry
  /-- AckDeadline passes (R174). -/
  | ackDeadlineExpiry
  /-- ReplayDeadline passes (R177). -/
  | replayDeadlineExpiry
  /-- The transmitter is free and its arbiter chooses (R180). -/
  | transmitterFree
  /-- The oldest Held entry of the command queue is taken (R153). -/
  | heldEntryTaken
  /-- The MAP_WRITE at the head of the ordered sequence executes (R11). -/
  | mapWrite
  /-- The MAP_READ at the head of the ordered sequence executes (R15). -/
  | mapRead
  /-- The MAP_INVALIDATE at the head of the ordered sequence executes (R13). -/
  | mapInvalidate
  /-- The WINDOW_SET at the head of the ordered sequence executes (R16). -/
  | windowSet
  /-- The BUFFER_CONTROL FLUSH at the head of the ordered sequence executes (R46). -/
  | bufferControlFlush
  /-- The BUFFER_CONTROL ENABLE at the head of the ordered sequence executes (R46). -/
  | bufferControlEnable
  /-- The BUFFER_CONTROL DISABLE at the head of the ordered sequence executes (R46). -/
  | bufferControlDisable
  /-- The SET_LIMITS at the head of the ordered sequence executes (R161). -/
  | setLimits
  /-- The SLOT_CONTROL ENABLE at the head of the ordered sequence executes (R87). -/
  | slotControlEnable
  /-- The SLOT_CONTROL DISABLE at the head of the ordered sequence executes (R88). -/
  | slotControlDisable
  /-- The SLOT_CONTROL FENCE at the head of the ordered sequence executes (R89). -/
  | slotControlFence
  /-- The SLOT_CONTROL UNFENCE at the head of the ordered sequence executes (R89). -/
  | slotControlUnfence
  /-- The SLOT_CONTROL RESET at the head of the ordered sequence executes (R91). -/
  | slotControlReset
  /-- The SLOT_CONTROL MASK at the head of the ordered sequence executes (R134). -/
  | slotControlMask
  /-- The SLOT_CONTROL UNMASK at the head of the ordered sequence executes (R134). -/
  | slotControlUnmask
  /-- The SLOT_CONTROL CLEAR_FAULTS at the head of the ordered sequence executes (R147, R80). -/
  | slotControlClearFaults
  /-- The SLOT_CONTROL AUTOFENCE_ON at the head of the ordered sequence executes (R90). -/
  | slotControlAutofenceOn
  /-- The SLOT_CONTROL AUTOFENCE_OFF at the head of the ordered sequence executes (R90). -/
  | slotControlAutofenceOff
  /-- The CARD_READ at the head of the ordered sequence executes (R114). -/
  | cardRead
  /-- The CARD_WRITE at the head of the ordered sequence executes (R114). -/
  | cardWrite
  /-- The LOCK_OPEN at the head of the ordered sequence executes (R96). -/
  | lockOpen
  /-- The LOCK_CLOSE at the head of the ordered sequence executes (R98). -/
  | lockClose
  /-- The BRIDGE_RESET at the head of the ordered sequence executes (R164). -/
  | bridgeReset
  /-- The owning slot presents a transaction (R73, R78). -/
  | slotPresentation (slot : Slot) (address : BusAddress) (transfer : Transfer) (lock : Bool)
  /-- A slot drops its lock flag between transactions (R73, R106). -/
  | lockRelease (slot : Slot)
  /-- The arbiter grants the bus; bit s of `requests` is the level of REQ s at the arbitration (R81). -/
  | busGrant (requests : BitVec 6)
  /-- The granted slot has presented nothing within 2 µs (R83). -/
  | grantIdleTimeout
  /-- The granted slot drops its request without presenting (R83). -/
  | requestDropped (slot : Slot)
  /-- The card target answers the bridge master's presentation; `data` is a read's bytes (R117). -/
  | presentationAnswer (response : Response) (data : List Byte)
  /-- No target claims the bridge master's presentation within 2 µs (R117). -/
  | noClaim
  /-- A slot's INT line is asserted (R127). -/
  | interruptAssertion (slot : Slot)
  /-- A slot's INT line is deasserted (R130). -/
  | interruptDeassertion (slot : Slot)
  /-- A slot's ResetDeadline passes (R92). -/
  | slotResetEnd (slot : Slot)
  /-- A GATHERING line's IdleDeadline passes (R35). -/
  | gatherIdleExpiry (line : LineIx)
  /-- An OUTSTANDING tag's Deadline passes (R56). -/
  | readTimeoutExpiry (tag : TagIx)
  /-- The episode's LimitDeadline passes (R107). -/
  | episodeLimitExpiry
  /-- The host lock's LimitDeadline passes (R99). -/
  | lockLimitExpiry
  /-- The reinitialisation of a bridge reset completes (R165). -/
  | reinitialisationComplete
  /-- A slot's completed slot drain is reported to its requester (R39). -/
  | slotDrainComplete (slot : Slot)
  /-- The completed global drain is reported to its requester (R40). -/
  | globalDrainComplete
  /-- The completed map barrier is reported to the Page Map (R14, R41). -/
  | mapBarrierComplete
  /-- The head of the closed-order list moves to the posted-write queue (R37). -/
  | closedLineMove
  /-- A waiting EXCL_END takes its reserved place (R106, R63). -/
  | exclEndPlaced
  /-- The Lock Unit asks again for the EXCL_BEGIN's tag (R102). -/
  | exclBeginAllocation
  /-- A card target answers the owning slot's transaction (R75, R83). -/
  | slotTransactionAnswer (response : Response)
  /-- No target claims the owning slot's transaction within 2 µs (R75). -/
  | slotTransactionNoClaim
  deriving DecidableEq, Repr

end Sys2Proof
end

