-- ==== Sys2Proof/Decode.lean ====
section
/-! DEFINITION. Decoding by the opcode table's bits: no row of spec/opcode_table.json gives any, so no word spells a
command (98, the reader's counts: n_rows_with_fixed 0, n_rows_with_fields 0). The frames' own formats are decoded in
Machine/Operands.lean. -/

namespace Sys2Proof

/-- The command that a word spells by the table's bits: none, since the table gives no row any bits. -/
def decodeTableWord (_nbits _w : Nat) : Option Instr := none

end Sys2Proof
end

