-- ==== Sys2Proof/Config.lean ====
section
/-! DEFINITION. What is fixed for the part (intervals, identification) and the free values, which the spec leaves open.
A free value is an uninterpreted constant: nothing can be proved of its value. -/

namespace Sys2Proof.Config

/-- Free bytes: the bytes of a line or posted entry that no write supplied, which MEM_WRITE carries all the same (R62, R65).
DESIGN CHOICE, log 6; safe. -/
opaque freeByte : Nat → Byte

/-- Free choices among alternatives whose order or value the spec does not give (log 7, log 13). DESIGN CHOICE; safe. -/
opaque freeChoice : Nat → Nat

/-- Whether a remaining time that is no whole number of µs is reported rounded up (section 11.8 gives the unit, µs, and no
rounding). DESIGN CHOICE, log 5; safe. -/
opaque roundsUp : Nat → Bool

/-- n µs in units of 0.5 µs. -/
def us (n : Nat) : Time := 2 * n

/-- n ms in units of 0.5 µs. -/
def ms (n : Nat) : Time := 2000 * n

/-- The interval of INIT frames in DOWN and TRAINING, 1 ms (R168, R169). -/
def initInterval : Time := ms 1

/-- The training deadline, 20 ms from the entry to TRAINING (R169). -/
def trainingTime : Time := ms 20

/-- The acknowledgement deadline, 8 µs (R174). -/
def ackTime : Time := us 8

/-- The replay deadline, 50 µs (R175, R176, R177). -/
def replayTime : Time := us 50

/-- The length of a slot reset, 100 µs (R91). -/
def slotResetTime : Time := us 100

/-- The 2 µs a granted slot has to present (R83) and a target has to claim (R75). -/
def busTime : Time := us 2

/-- The part code the bridge's INIT carries (R168). -/
def partCode : Nat := 0x2410

/-- The revision the bridge's INIT carries (R168). -/
def revision : Nat := 0x01

/-- The largest payload the bridge sends and needs the host to take (R168). -/
def maxPayload : Nat := 136

/-- The command credits the host holds at each entry to UP (R154, R168, R170). -/
def commandCredits : Nat := 8

/-- The number of places of the command queue (R152). -/
def commandPlaces : Nat := 8

/-- The number of places of the posted-write queue (R62). -/
def postedPlaces : Nat := 16

/-- The number of places of the fault queue (R144). -/
def faultPlaces : Nat := 16

/-- The number of places of the replay buffer (R175). -/
def replayPlaces : Nat := 16

/-- Replays without progress after which the next one due starts a link loss (R177). -/
def replayLimit : Nat := 4

end Sys2Proof.Config
end

