-- ==== Sys2Proof/Machine/State.lean ====
section
/-! DEFINITION. The state of the bridge, block by block as 00 (Block Diagram) names the blocks; its value at power-on reset;
and the reasons a step can stop. -/

namespace Sys2Proof.Machine

/-! ### Page Map (chapter 1) -/

/-- The directions in which cards may use a page (R2, R7). -/
inductive Access where
  | none
  | read
  | write
  | readWrite
  deriving DecidableEq, Repr

/-- How the Staging Unit serves unlocked accesses to a page (R2). -/
inductive PageMode where
  | buffered
  | direct
  deriving DecidableEq, Repr

/-- One map entry (R2). Bit n of `slots` says that slot n is in Slots. -/
structure MapEntry where
  valid : Bool
  hostFrame : BitVec 32
  access : Access
  slots : BitVec 6
  mode : PageMode
  epoch : BitVec 8
  deriving DecidableEq, Repr

/-- The window setting (R1) and the 512 map entries (R2). -/
structure PageMap where
  on : Bool
  base : CardAddr
  entries : Table MapEntry 512
  deriving DecidableEq, Repr

/-! ### Staging Unit (chapter 2) -/

/-- A tag's index with a generation (R49). -/
structure TagRef where
  index : TagIx
  generation : BitVec 2
  deriving DecidableEq, Repr

/-- What every line but a FREE one is bound to: Slot, HostLine, MapIndex and Epoch (R20). -/
structure Binding where
  slot : Slot
  hostLine : HostAddr
  mapIndex : EntryIx
  epoch : BitVec 8
  deriving DecidableEq, Repr

/-- Direct, FetchStart and FetchEnd of a read line (R20). -/
structure FetchSpan where
  direct : Bool
  start : Nat
  stop : Nat
  deriving DecidableEq, Repr

/-- A staging line: its state with the fields R20 gives that state. `readStart` is present for Direct = yes only.
`fetched` of a VALID line is Data from FetchStart on; its ByteValid is the span FetchStart to FetchEnd - 1 (R32), log 24. -/
inductive Line where
  | free
  | fetching (b : Binding) (f : FetchSpan) (readStart : Option Nat) (stale : Bool) (tag : TagRef)
  | valid (b : Binding) (f : FetchSpan) (fetched : List Byte) (consume : Nat)
  | error (b : Binding) (f : FetchSpan) (tag : TagRef)
  | gathering (b : Binding) (data : Table Byte 64) (byteValid : BitVec 64) (idleDeadline : Time)
  | closed (b : Binding) (data : Table Byte 64) (byteValid : BitVec 64)
  deriving DecidableEq, Repr

/-- A drain in progress of one requester: not begun, running, or complete and not yet reported (R39; log 8). -/
inductive DrainPhase where
  | idle
  | running
  | complete
  deriving DecidableEq, Repr

/-- The slot drains of one slot, by requester: a read miss, which has no requester to tell (R28), the Event Unit and the
Lock Unit (R43). A drain whose requester no longer waits for it counts as one without requester (R130, R102). -/
structure SlotDrains where
  unowned : DrainPhase
  event : DrainPhase
  episode : DrainPhase
  deriving DecidableEq, Repr

/-- The mark of a global drain or map barrier: the line that will become the marked entry, the entry by its PostedNumber
(R40, R41, R64), or the marked entry has been transmitted and the drain is complete, not yet reported (log 8). -/
inductive Mark where
  | line (i : LineIx)
  | posted (n : BitVec 16)
  | transmitted
  deriving DecidableEq, Repr

/-- The Staging Unit's state. `lru` has the least recent line first (R24); `gatherIdle` is in 0.5 µs units (R45). -/
structure Staging where
  lines : Table Line 8
  closedOrder : List LineIx
  lru : List LineIx
  buffering : Bool
  readAhead : Bool
  gatherIdle : Nat
  slotDrains : Table SlotDrains 6
  globalDrain : Option Mark
  mapBarrier : Option Mark
  deriving DecidableEq, Repr

/-! ### Upstream Tracker (chapter 3) -/

/-- Purpose of a busy tag (R49); the slot of a LOCKED_READ or EXCL_BEGIN is the request's. -/
inductive Purpose where
  | lineFetch (line : LineIx)
  | lockedRead
  | exclBegin
  deriving DecidableEq, Repr

/-- What a busy tag asks for (R49). Locked is yes for LOCKED_READ and no otherwise, so it is not held twice. -/
structure Request where
  purpose : Purpose
  hostAddress : HostAddr
  length : Nat
  slot : Slot
  deriving DecidableEq, Repr

/-- State of a tag with the fields the state has (R49). -/
inductive TagState where
  | free
  | waiting (r : Request)
  | outstanding (r : Request) (deadline : Time)
  deriving DecidableEq, Repr

/-- One tag record (R49). -/
structure TagRecord where
  state : TagState
  generation : BitVec 2
  deriving DecidableEq, Repr

/-- Kind of a posted entry, a WRITE with its ByteMask and Data (R62). -/
inductive PostedKind where
  | write (byteMask : BitVec 64) (data : Table Byte 64)
  | exclEnd
  deriving DecidableEq, Repr

/-- One posted entry (R62). -/
structure PostedEntry where
  slot : Slot
  kind : PostedKind
  hostAddress : HostAddr
  locked : Bool
  number : BitVec 16
  deriving DecidableEq, Repr

/-- The Upstream Tracker's state. `readTimeout` is in ms (R56). -/
structure Tracker where
  tags : Table TagRecord 16
  requestQueue : List TagIx
  posted : List PostedEntry
  nextPosted : BitVec 16
  writeHold : Bool
  holdHigh : Nat
  holdLow : Nat
  readTimeout : Nat
  deriving DecidableEq, Repr

/-! ### Slot Bus Controller (chapter 4) -/

/-- The record of one slot (R85). InReset is yes exactly while ResetDeadline is present, so the deadline alone is held. -/
structure SlotRecord where
  enabled : Bool
  fenced : Bool
  resetDeadline : Option Time
  autofence : Bool
  fencedAborts : BitVec 16
  downAborts : BitVec 16
  deriving DecidableEq, Repr

/-- InReset (R85). -/
def SlotRecord.inReset (r : SlotRecord) : Bool := r.resetDeadline.isSome

/-- The current owner of the slot bus (R82). -/
inductive Owner where
  | none
  | master
  | slot (s : Slot)
  deriving DecidableEq, Repr

/-- How far the owning slot is: granted and nothing presented; a transaction outside the window presented and not answered;
a PARTIAL answered and the remainder not yet presented (R75, R83). -/
inductive SlotPhase where
  | granted
  | awaiting (address : BusAddress) (length : Nat)
  | continuing
  deriving DecidableEq, Repr

/-- An answer of the bridge as target: SBRSP with SBCNT, and a read's data (R75, R77). -/
structure BusAnswer where
  response : Response
  data : List Byte
  deriving DecidableEq, Repr

/-- The Slot Bus Controller's state. `deadline` is the running 2 µs of a grant (R83) or of an unclaimed presentation (R75).
`claimants` are the slots whose cards may claim the last presentation that went to the card targets, lowest first: a card in
reset at the presentation, or put into reset since, is not among them (R74, R123; DEDUCED, log 31; safe). -/
structure SlotBus where
  slots : Table SlotRecord 6
  owner : Owner
  phase : SlotPhase
  deadline : Option Time
  claimants : List Slot
  pointer : Slot
  masterLock : Bool
  answer : Option BusAnswer
  deriving DecidableEq, Repr

/-! ### Lock Unit (chapter 5) -/

/-- The host lock; LimitDeadline is present only while HELD (R95). -/
inductive HostLock where
  | free
  | acquiring
  | held (deadline : Time)
  deriving DecidableEq, Repr

/-- The result of a HeldRead (R100). -/
inductive HeldResult where
  | waiting
  | data (bytes : List Byte)
  | error
  deriving DecidableEq, Repr

/-- The locked read in progress (R100, R104). -/
structure HeldRead where
  hostAddress : HostAddr
  offset : Nat
  length : Nat
  tag : TagRef
  result : HeldResult
  deriving DecidableEq, Repr

/-- State of an episode in progress (R100). -/
inductive EpisodeState where
  | requested
  | opened
  | abandoning
  deriving DecidableEq, Repr

/-- The episode record in every state but NONE (R100). -/
structure Episode where
  state : EpisodeState
  slot : Slot
  hostAddress : HostAddr
  beginQueued : Bool
  beginTag : Option TagRef
  limit : Option Time
  heldRead : Option HeldRead
  endPending : Bool
  deriving DecidableEq, Repr

/-- The Lock Unit's state; `episode` is none in NONE. `lockLimit` is in ms (R95), `episodeLimit` in µs (R100). -/
structure LockUnit where
  hostLock : HostLock
  episode : Option Episode
  abortNext : BitVec 6
  lockLimit : Nat
  episodeLimit : Nat
  deriving DecidableEq, Repr

/-! ### The bridge master's downstream access (chapter 6) -/

/-- Phase of a downstream access (R115). -/
inductive Phase where
  | requesting
  | presenting
  | draining
  deriving DecidableEq, Repr

/-- The downstream access record (R115). `slot` is the named slot of an IDENTITY access; MEMORY and IO ignore theirs (R113). -/
structure Downstream where
  tag : BitVec 16
  write : Bool
  space : Space
  slot : Option Slot
  address : BitVec 32
  length : Nat
  data : List Byte
  bytesDone : Nat
  retryCount : Nat
  retryLimit : Nat
  phase : Phase
  deriving DecidableEq, Repr

/-- The bridge master's state: the access record and the retry limit in force (R115). -/
structure BridgeMaster where
  access : Option Downstream
  retryLimit : Nat
  deriving DecidableEq, Repr

/-! ### Event Unit (chapter 7) -/

/-- State of an event record with Drained while PENDING and Frame while SENT (R126). -/
inductive EventState where
  | idle
  | pending (drained : Bool)
  | sent (transmitted : Bool)
  deriving DecidableEq, Repr

/-- One event record (R126). -/
structure EventRecord where
  state : EventState
  seq : BitVec 8
  resend : Bool
  masked : Bool
  deriving DecidableEq, Repr

/-- An EVENT frame as it is made (R129). -/
structure EventFrame where
  slot : Slot
  seq : BitVec 8
  resend : Bool
  deriving DecidableEq, Repr

/-- The Event Unit's state: the records, the levels of the INT inputs (R127) and the offered frames in their list's order
(R181). -/
structure EventUnit where
  records : Table EventRecord 6
  lines : Table Bool 6
  offered : List EventFrame
  deriving DecidableEq, Repr

/-! ### Fault Unit (chapter 8) -/

/-- The twelve kinds of fault (R141), in the order of their codes (section 11.7). -/
inductive FaultKind where
  | mapMiss
  | slotDenied
  | accessDenied
  | readTimeout
  | hostError
  | completionMismatch
  | unexpectedCompletion
  | exclOverrun
  | exclRefused
  | commandOverflow
  | creditOverflow
  | discard
  deriving DecidableEq, Repr

/-- Cause of a DISCARD record (R140). -/
inductive DiscardCause where
  | linkLoss
  | bridgeReset
  deriving DecidableEq, Repr

/-- The fields that only a DISCARD record has (R140). -/
structure Discard where
  cause : DiscardCause
  writes : Nat
  reads : Nat
  commands : Nat
  deriving DecidableEq, Repr

/-- What a block hands to the Fault Unit: a Kind and the optional fields of that kind (R140, R141). `tag` is the byte that
carries index and generation (section 11.1). -/
structure FaultReport where
  kind : FaultKind
  slot : Option Slot := none
  cardAddress : Option CardAddr := none
  hostAddress : Option HostAddr := none
  tag : Option Byte := none
  discard : Option Discard := none
  deriving DecidableEq, Repr

/-- An admitted fault record: the report with FaultSeq, Fenced and LostBefore (R140). -/
structure FaultRecord where
  seq : BitVec 16
  report : FaultReport
  fenced : Bool
  lostBefore : BitVec 16
  deriving DecidableEq, Repr

/-- The Fault Unit's state. A slot's summary has the bits of section 11.7. -/
structure FaultUnit where
  queue : List FaultRecord
  dropped : BitVec 16
  nextSeq : BitVec 16
  summaries : Table (BitVec 8) 6
  deriving DecidableEq, Repr

/-! ### Command Unit (chapter 9) -/

/-- One entry of the command queue: Tag, Code and the argument fields as received, and Held (R152). -/
structure CommandEntry where
  tag : BitVec 16
  code : Byte
  args : List Byte
  held : Bool
  deriving DecidableEq, Repr

/-- What the executing command waits for (R158). -/
inductive Wait where
  | none
  | episode
  | bus
  | barrier
  | drain
  deriving DecidableEq, Repr

/-- The executing command (R152). -/
structure Executing where
  tag : BitVec 16
  code : Byte
  args : List Byte
  wait : Wait
  deriving DecidableEq, Repr

/-- The reply codes (R156), in the order of their codes (section 11.5). -/
inductive ResultCode where
  | ok
  | unknownCommand
  | badArgument
  | tagInUse
  | noTarget
  | targetAbort
  | retryLimit
  | notHeld
  | badSequence
  | slotDisabled
  deriving DecidableEq, Repr

/-- The notices (R159). -/
inductive Notice where
  | lockExpired
  | slotResetDone (slot : Slot)
  | resetDone
  deriving DecidableEq, Repr

/-- A frame of the reply queue (R153): a REPLY with its head and body (R156), or a NOTICE. -/
inductive ReportFrame where
  | reply (tag : BitVec 16) (code : Byte) (result : ResultCode) (body : List Byte)
  | notice (n : Notice)
  deriving DecidableEq, Repr

/-- The Command Unit's state; `resetting` is ResetPhase = RESETTING (R152, R153). -/
structure CommandUnit where
  queue : List CommandEntry
  executing : Option Executing
  resetting : Bool
  replies : List ReportFrame
  deriving DecidableEq, Repr

/-! ### Uplink Port (chapter 10) -/

/-- LinkState (R167). -/
inductive LinkState where
  | down
  | training
  | up
  deriving DecidableEq, Repr

/-- The sequenced frames the bridge sends (R184). -/
inductive UpFrame where
  | report (f : ReportFrame)
  | event (f : EventFrame)
  | fault (r : FaultRecord)
  | memRead (tag : TagRef) (slot : Slot) (locked : Bool) (length : Nat) (hostAddress : HostAddr)
  | exclBegin (tag : TagRef) (slot : Slot) (hostAddress : HostAddr)
  | memWrite (hostAddress : HostAddr) (byteMask : BitVec 64) (slot : Slot) (locked : Bool) (data : Table Byte 64)
  | exclEnd (slot : Slot) (hostAddress : HostAddr)
  deriving DecidableEq, Repr

/-- The link frames the bridge sends (R184). -/
inductive LinkFrame where
  | linkReset
  | init (heard : Bool) (epoch : BitVec 8)
  | nak (n : SeqNo)
  | ack (n : SeqNo)
  | credit (commands : Nat)
  deriving DecidableEq, Repr

/-- A frame as it goes onto the lane: a link frame, or a sequenced frame with its Seq and AckSeq (R175). -/
inductive WireFrame where
  | link (f : LinkFrame)
  | sequenced (seq ackSeq : SeqNo) (f : UpFrame)
  deriving DecidableEq, Repr

/-- A frame kept in the replay buffer with its Seq (R175). -/
structure SentFrame where
  seq : SeqNo
  frame : UpFrame
  deriving DecidableEq, Repr

/-- The four classes of new sequenced frame (R180). -/
inductive TxClass where
  | reply
  | fault
  | posted
  | request
  deriving DecidableEq, Repr

/-- The two sources of the REPLY class (R181). -/
inductive ReplySource where
  | replyQueue
  | events
  deriving DecidableEq, Repr

/-- The Uplink Port's state (R167), with the 1 ms interval of INIT frames (R168, R169), the link frames that are due (R180
row 1) and the frame last sent on the transmit lane. -/
structure Uplink where
  linkState : LinkState
  linkEpoch : BitVec 8
  trainingDeadline : Option Time
  initDeadline : Option Time
  nextTx : SeqNo
  nextRx : SeqNo
  nakSent : Bool
  unacknowledged : Nat
  ackDeadline : Option Time
  replay : List SentFrame
  replayNext : Option SeqNo
  replayDeadline : Option Time
  replayCount : Nat
  requestCredits : BitVec 8
  postedCredits : BitVec 8
  pendingCredits : Nat
  creditsReturned : BitVec 16
  classPointer : TxClass
  replySource : ReplySource
  crcErrors : BitVec 16
  naksSent : BitVec 16
  replays : BitVec 16
  linkLosses : BitVec 16
  resetDue : Bool
  initDue : Bool
  nakDue : Bool
  ackDue : Bool
  lane : Option WireFrame
  deriving DecidableEq, Repr

/-! ### The whole -/

/-- The state of the bridge: the nine blocks (with the bridge master's access record beside the Slot Bus Controller), and
the model's own fields: the present time, the counter of free values, and the queue of commands not yet taken. -/
structure State where
  pageMap : PageMap
  staging : Staging
  tracker : Tracker
  bus : SlotBus
  locks : LockUnit
  master : BridgeMaster
  events : EventUnit
  faults : FaultUnit
  command : CommandUnit
  uplink : Uplink
  now : Time
  freeIndex : Nat
  pending : List Instr
  deriving DecidableEq, Repr

/-! ### Reset values -/

/-- A map entry at power-on reset (R19). -/
def MapEntry.reset : MapEntry where
  valid := false
  hostFrame := 0
  access := .none
  slots := 0
  mode := .buffered
  epoch := 0

/-- The Page Map at power-on reset (R1, R19). -/
def PageMap.reset : PageMap where
  on := false
  base := 0
  entries := Table.fill 512 MapEntry.reset

/-- No drain of a slot in progress. -/
def SlotDrains.none : SlotDrains where
  unowned := .idle
  event := .idle
  episode := .idle

/-- The Staging Unit at power-on reset (R48). -/
def Staging.reset : Staging where
  lines := Table.fill 8 .free
  closedOrder := []
  lru := []
  buffering := true
  readAhead := false
  gatherIdle := 4
  slotDrains := Table.fill 6 SlotDrains.none
  globalDrain := none
  mapBarrier := none

/-- The Upstream Tracker at power-on reset (R72). -/
def Tracker.reset : Tracker where
  tags := Table.fill 16 ⟨.free, 0⟩
  requestQueue := []
  posted := []
  nextPosted := 0
  writeHold := false
  holdHigh := 12
  holdLow := 4
  readTimeout := 20

/-- A slot's record at power-on reset (R85). -/
def SlotRecord.reset : SlotRecord where
  enabled := false
  fenced := false
  resetDeadline := none
  autofence := true
  fencedAborts := 0
  downAborts := 0

/-- The Slot Bus Controller at power-on reset (R82, R85). The values of `phase`, `deadline`, `claimants` and `answer`
are DESIGN CHOICE, log 16; unsafe. -/
def SlotBus.reset : SlotBus where
  slots := Table.fill 6 SlotRecord.reset
  owner := .none
  phase := .granted
  deadline := none
  claimants := []
  pointer := 5
  masterLock := false
  answer := none

/-- The Lock Unit at power-on reset (R95, R100). -/
def LockUnit.reset : LockUnit where
  hostLock := .free
  episode := none
  abortNext := 0
  lockLimit := 5
  episodeLimit := 50

/-- The bridge master at power-on reset (R115). -/
def BridgeMaster.reset : BridgeMaster where
  access := none
  retryLimit := 256

/-- An event record at power-on reset (R126). -/
def EventRecord.reset : EventRecord where
  state := .idle
  seq := 0
  resend := false
  masked := false

/-- The Event Unit at power-on reset (R126). The levels of the INT inputs are DESIGN CHOICE, log 16; unsafe. -/
def EventUnit.reset : EventUnit where
  records := Table.fill 6 EventRecord.reset
  lines := Table.fill 6 false
  offered := []

/-- The Fault Unit at power-on reset (R150). -/
def FaultUnit.reset : FaultUnit where
  queue := []
  dropped := 0
  nextSeq := 0
  summaries := Table.fill 6 0

/-- The Command Unit at power-on reset (R152). -/
def CommandUnit.reset : CommandUnit where
  queue := []
  executing := none
  resetting := false
  replies := []

/-- The Uplink Port at power-on reset (R167). The link enters DOWN, so an INIT is due at once and the next after 1 ms (R168;
DEDUCED, log 16); nothing has been sent (DESIGN CHOICE, log 16; unsafe). -/
def Uplink.reset : Uplink where
  linkState := .down
  linkEpoch := 0
  trainingDeadline := none
  initDeadline := some Config.initInterval
  nextTx := 0
  nextRx := 0
  nakSent := false
  unacknowledged := 0
  ackDeadline := none
  replay := []
  replayNext := none
  replayDeadline := none
  replayCount := 0
  requestCredits := 0
  postedCredits := 0
  pendingCredits := 0
  creditsReturned := 0
  classPointer := .request
  replySource := .events
  crcErrors := 0
  naksSent := 0
  replays := 0
  linkLosses := 0
  resetDue := false
  initDue := true
  nakDue := false
  ackDue := false
  lane := none

/-- The bridge right after power-on reset, with no command waiting. The model's own `now`, `freeIndex` and `pending` are
DESIGN CHOICE, logs 3, 6 and 1. -/
def State.reset : State where
  pageMap := PageMap.reset
  staging := Staging.reset
  tracker := Tracker.reset
  bus := SlotBus.reset
  locks := LockUnit.reset
  master := BridgeMaster.reset
  events := EventUnit.reset
  faults := FaultUnit.reset
  command := CommandUnit.reset
  uplink := Uplink.reset
  now := 0
  freeIndex := 0
  pending := []

/-! ### Stops -/

/-- The reasons for which the block stops with a fault: none. The manual gives no event that stops the bridge; what it
calls faults are FAULT records (R140), which are effects on the state. Safe. -/
inductive Fault
  deriving DecidableEq, Repr

/-- The reasons for which a step has no meaning. -/
inductive Refusal where
  /-- Raised by an arm of `exec` for a command that has no meaning in the model yet; none has it. Safe: the model stops. -/
  | notModelled (mnemonic : String)
  deriving DecidableEq, Repr

end Sys2Proof.Machine
end

