-- ==== Sys2Proof/Machine/Ops.lean ====
section
/-! DEFINITION. The named operations that several blocks share: block updates, bytes and their order, the CRC, counters,
the present time, free choices, the reply queue and the command credits. -/

namespace Sys2Proof.Machine

/-! ### Block updates -/

namespace State

/-- The state with the Page Map replaced. -/
def setPageMap (s : State) (x : PageMap) : State := { s with pageMap := x }

/-- The state with the Staging Unit replaced. -/
def setStaging (s : State) (x : Staging) : State := { s with staging := x }

/-- The state with the Upstream Tracker replaced. -/
def setTracker (s : State) (x : Tracker) : State := { s with tracker := x }

/-- The state with the Slot Bus Controller replaced. -/
def setBus (s : State) (x : SlotBus) : State := { s with bus := x }

/-- The state with the Lock Unit replaced. -/
def setLocks (s : State) (x : LockUnit) : State := { s with locks := x }

/-- The state with the bridge master replaced. -/
def setMaster (s : State) (x : BridgeMaster) : State := { s with master := x }

/-- The state with the Event Unit replaced. -/
def setEvents (s : State) (x : EventUnit) : State := { s with events := x }

/-- The state with the Fault Unit replaced. -/
def setFaults (s : State) (x : FaultUnit) : State := { s with faults := x }

/-- The state with the Command Unit replaced. -/
def setCommand (s : State) (x : CommandUnit) : State := { s with command := x }

/-- The state with the Uplink Port replaced. -/
def setUplink (s : State) (x : Uplink) : State := { s with uplink := x }

/-- The state with the present time replaced. -/
def setNow (s : State) (x : Time) : State := { s with now := x }

/-- The state with the counter of free values replaced. -/
def setFreeIndex (s : State) (x : Nat) : State := { s with freeIndex := x }

/-- The state with the queue of commands not yet taken replaced. -/
def setPending (s : State) (x : List Instr) : State := { s with pending := x }

end State

/-! ### Bytes -/

/-- The 16-bit number of two bytes, most significant byte first (chapter 11, opening). -/
def u16 (b1 b0 : Byte) : Nat := b1.toNat * 256 + b0.toNat

/-- The 32-bit number of four bytes, most significant byte first (chapter 11, opening). -/
def u32 (b3 b2 b1 b0 : Byte) : Nat := u16 b3 b2 * 65536 + u16 b1 b0

/-- The low n bytes of a number, most significant byte first (chapter 11, opening). -/
def be : Nat → Nat → List Byte
  | 0, _ => []
  | n + 1, v => BitVec.ofNat 8 (v >>> (8 * n)) :: be n v

/-- n reserved bytes, sent as 0 (R185). -/
def zeros (n : Nat) : List Byte := List.replicate n 0

/-- A flag as bit k of a number. -/
def flag (b : Bool) (k : Nat) : Nat := if b then 2 ^ k else 0

/-! ### The CRC (R183) -/

/-- n steps of the CRC register, bit 0 of the data first. -/
def crcBits : Nat → BitVec 32 → BitVec 32
  | 0, r => r
  | n + 1, r => crcBits n (if r.getLsbD 0 then (r >>> 1) ^^^ 0xEDB88320 else r >>> 1)

/-- The CRC of header and payload: generator 04C11DB7h (reflected here, since bit 0 goes first), preset FFFFFFFFh,
complemented at the end (R183). PRESUMED that the register is read reflected, as CRC-32 is elsewhere: log 10; unsafe. -/
def crc (bytes : List Byte) : BitVec 32 :=
  ~~~(bytes.foldl (fun r b => crcBits 8 (r ^^^ b.setWidth 32)) 0xFFFFFFFF)

/-- The CRC field of a frame, least significant byte first (R183). -/
def crcField (bytes : List Byte) : List Byte :=
  let r := crc bytes
  [r.extractLsb' 0 8, r.extractLsb' 8 8, r.extractLsb' 16 8, r.extractLsb' 24 8]

/-! ### Counters, time and free choices -/

/-- A count that stops at 65535 (00, Conventions: saturating). -/
def satInc (n : BitVec 16) : BitVec 16 := if n = 0xFFFF then n else n + 1

/-- The present time has reached a deadline that passes (log 4). -/
def passTo (d : Time) (s : State) : State := s.setNow (max s.now d)

/-- A list in an order that the free choices from number k on decide; every order of the list is one of them (log 7). -/
def freeOrder {α : Type} (k : Nat) : List α → List α
  | [] => []
  | [x] => [x]
  | x :: y :: rest =>
    (freeOrder (k + 1) (y :: rest)).insertIdx (Config.freeChoice k % (rest.length + 2)) x

/-- 64 free bytes (log 6). -/
def freeBytes (k : Nat) : Table Byte 64 := Table.build 64 (fun i => Config.freeByte (64 * k + i))

/-- Bytes written at an offset into 64 bytes of data (R33, R34). -/
def mergeBytes (data : Table Byte 64) (offset : Nat) (bytes : List Byte) : Table Byte 64 :=
  data.mapIx (fun i old => if offset ≤ i then bytes.getD (i - offset) old else old)

/-- The set of the n offsets from o on, as a ByteMask (R34, section 11.3). -/
def byteSpan (o n : Nat) : BitVec 64 := BitVec.ofNat 64 ((2 ^ n - 1) * 2 ^ o)

/-- The set of one slot. -/
def slotBit (s : Slot) : BitVec 6 := BitVec.ofNat 6 (2 ^ s.val)

/-- Whether a set of slots holds a slot (R2, R100). -/
def slotIn (set : BitVec 6) (s : Slot) : Bool := set.getLsbD s.val

/-- All line indexes, lowest first. -/
def allLines : List LineIx := [0, 1, 2, 3, 4, 5, 6, 7]

/-- All tag indexes, lowest first. -/
def allTags : List TagIx := [0, 1, 2, 3, 4, 5, 6, 7, 8, 9, 10, 11, 12, 13, 14, 15]

/-- All slots, lowest first. -/
def allSlots : List Slot := [0, 1, 2, 3, 4, 5]

/-! ### Slot records -/

/-- A slot's record changed. -/
def setSlot (slot : Slot) (r : SlotRecord) (s : State) : State :=
  s.setBus { s.bus with slots := s.bus.slots.set slot r }

/-- A slot may be granted the bus, and its interrupt line is considered, while it is enabled and not in reset (R81, R127). -/
def eligible (slot : Slot) (s : State) : Bool :=
  (s.bus.slots.get slot).enabled && !(s.bus.slots.get slot).inReset

/-- The slots whose cards may claim a transaction presented now: every card that is out of reset, in IDENTITY only the one
whose select line is asserted (R74, R123). Which of them decodes an address in MEMORY or IO is the cards' own (DEDUCED, log 31;
safe). -/
def claimants (space : Space) (selected : Option Slot) (s : State) : List Slot :=
  allSlots.filter (fun x => eligible x s && (space != .identity || selected == some x))

/-- A slot's record changed to one that holds its card in reset: the card claims nothing from then on (R74, R85). -/
def holdInReset (slot : Slot) (r : SlotRecord) (s : State) : State :=
  s.setBus { s.bus with slots := s.bus.slots.set slot r, claimants := s.bus.claimants.filter (· ≠ slot) }

/-- A card may claim the presentation that is on the bus (R74, R123). -/
def mayBeClaimed (s : State) : Bool := !s.bus.claimants.isEmpty

/-- The slot's ownership of the bus ends, if it owns the bus (R83). -/
def endOwnership (slot : Slot) (s : State) : State :=
  if s.bus.owner = .slot slot then s.setBus { s.bus with owner := .none, phase := .granted, deadline := none } else s

/-! ### The reply queue and the command credits (R153, R154) -/

/-- A frame joins the tail of the reply queue (R153). -/
def queueReport (f : ReportFrame) (s : State) : State :=
  s.setCommand { s.command with replies := s.command.replies ++ [f] }

/-- The Command Unit returns one command credit (R154, R179). Past 8, where the range of R167 ends, the value is free: only a
host that sends without credit gets there (log 13). -/
def returnCredit (s : State) : State :=
  if s.uplink.pendingCredits < Config.commandCredits then
    s.setUplink { s.uplink with pendingCredits := s.uplink.pendingCredits + 1 }
  else
    (s.setUplink { s.uplink with pendingCredits := Config.freeChoice s.freeIndex % (Config.commandCredits + 1) }).setFreeIndex
      (s.freeIndex + 1)

/-- The executing command is complete: its reply is queued and Executing is removed (R158). -/
def complete (result : ResultCode) (body : List Byte) (s : State) : State :=
  match s.command.executing with
  | some e =>
    s.setCommand
      { s.command with executing := none, replies := s.command.replies ++ [.reply e.tag e.code result body] }
  | none => s

/-- The executing command waits (R158). -/
def setWait (w : Wait) (s : State) : State :=
  match s.command.executing with
  | some e => s.setCommand { s.command with executing := some { e with wait := w } }
  | none => s

end Sys2Proof.Machine
end

