-- ==== Sys2Proof/Machine/Operands.lean ====
section
/-! DEFINITION. The operands of the commands: the payloads of received frames and the arguments of the fourteen COMMAND
codes, read as chapter 11 lays them out, with the arrival checks of each command's own rule (R155 row 6). -/

namespace Sys2Proof.Machine

/-! ### Received frames (sections 11.1 to 11.3) -/

/-- The kinds of frame the host sends (R184). -/
inductive HostKind where
  | init
  | ack
  | nak
  | credit
  | linkReset
  | command
  | memData
  deriving DecidableEq, Repr

/-- The kind of a code, for the kinds the host sends (R184). -/
def hostKind (code : Byte) : Option HostKind :=
  match code.toNat with
  | 0x01 => some .init
  | 0x02 => some .ack
  | 0x03 => some .nak
  | 0x04 => some .credit
  | 0x05 => some .linkReset
  | 0x10 => some .command
  | 0x11 => some .memData
  | _ => none

/-- Whether a payload length lies in the range R184 gives the kind. -/
def lengthFits (k : HostKind) (n : Nat) : Bool :=
  match k with
  | .init => n == 12
  | .ack => n == 4
  | .nak => n == 4
  | .credit => n == 4
  | .linkReset => n == 0
  | .command => n ≤ 136
  | .memData => 4 ≤ n && n ≤ 68

/-- What the checks of R183 say of the bytes between a start mark and an end mark. -/
inductive FrameCheck where
  | good
  | crcFailed
  | malformed
  deriving DecidableEq, Repr

/-- The checks of R183 in their order. -/
def checkFrame (bytes : List Byte) : FrameCheck :=
  if bytes.length < 10 then .crcFailed
  else
    let body := bytes.take (bytes.length - 4)
    if bytes.drop (bytes.length - 4) ≠ crcField body then .crcFailed
    else if u16 (bytes.getD 4 0) (bytes.getD 5 0) ≠ bytes.length - 10 then .malformed
    else
      match hostKind (bytes.getD 0 0) with
      | none => .malformed
      | some k => if lengthFits k (bytes.length - 10) then .good else .malformed

/-- The fields of a received INIT that the bridge does not ignore (R168, R185). -/
structure InitFields where
  heard : Bool
  maxPayload : Nat
  requestCredits : BitVec 8
  postedCredits : BitVec 8
  deriving DecidableEq, Repr

/-- The INIT payload: Flags, Revision, PartCode (2), LinkEpoch, reserved, MaxPayload (2), CommandCredits, RequestCredits,
PostedCredits, reserved (section 11.2). -/
def initFields (p : List Byte) : InitFields where
  heard := (p.getD 0 0).getLsbD 0
  maxPayload := u16 (p.getD 6 0) (p.getD 7 0)
  requestCredits := p.getD 9 0
  postedCredits := p.getD 10 0

/-- The Seq that an ACK or NAK names: bits 5 to 0 of its first byte (section 11.2). -/
def namedSeq (p : List Byte) : SeqNo := (p.getD 0 0).setWidth 6

/-- The byte that carries a tag: the index in bits 5 to 0 and the generation in bits 7 and 6 (section 11.1). -/
def tagByte (t : TagRef) : Byte := BitVec.ofNat 8 (t.generation.toNat * 64 + t.index.val)

/-- The tag index that a byte carries, 0 to 63 (section 11.1). -/
def tagIndex (b : Byte) : Nat := b.toNat % 64

/-- The generation that a byte carries (section 11.1). -/
def tagGeneration (b : Byte) : BitVec 2 := BitVec.ofNat 2 (b.toNat / 64)

/-! ### Commands (section 11.5) -/

/-- The five fields a MAP_WRITE record gives an entry (R11). -/
structure EntryFields where
  valid : Bool
  hostFrame : BitVec 32
  access : Access
  slots : BitVec 6
  mode : PageMode
  deriving DecidableEq, Repr

/-- Actions of BUFFER_CONTROL (R45). -/
inductive BufferAction where
  | flush
  | enable
  | disable
  deriving DecidableEq, Repr

/-- The six optional fields of SET_LIMITS (R160). -/
structure LimitFields where
  readTimeout : Option Nat
  episodeLimit : Option Nat
  lockLimit : Option Nat
  holdHigh : Option Nat
  holdLow : Option Nat
  retryLimit : Option Nat
  deriving DecidableEq, Repr

/-- Actions of SLOT_CONTROL (R86). -/
inductive SlotAction where
  | enable
  | disable
  | fence
  | unfence
  | reset
  | mask
  | unmask
  | clearFaults
  | autofenceOn
  | autofenceOff
  deriving DecidableEq, Repr

/-- The arguments of CARD_READ and CARD_WRITE (R113). `slot` is present for IDENTITY only. -/
structure AccessFields where
  space : Space
  slot : Option Slot
  address : BitVec 32
  length : Nat
  deriving DecidableEq, Repr

/-- The sections of STATUS_QUERY (R163). -/
inductive StatusSection where
  | link
  | lines
  | upstream
  | slots
  | locks
  | faults
  deriving DecidableEq, Repr

/-- A command with its arguments (section 9.4). -/
inductive Command where
  | mapWrite (first : Nat) (records : List EntryFields)
  | mapRead (first count : Nat)
  | mapInvalidate (first count : Nat)
  | windowSet (on : Bool) (base : CardAddr)
  | bufferControl (action : BufferAction) (gatherIdle : Option Nat) (readAhead : Option Bool)
  | setLimits (l : LimitFields)
  | slotControl (slot : Slot) (action : SlotAction)
  | cardRead (a : AccessFields)
  | cardWrite (a : AccessFields) (data : List Byte)
  | lockOpen
  | lockClose
  | eventAck (slot : Slot) (seq : BitVec 8)
  | statusQuery (x : StatusSection)
  | bridgeReset
  deriving DecidableEq, Repr

/-- A slot number that lies in 0 to 5. -/
def slotOf (b : Byte) : Option Slot :=
  if h : b.toNat < 6 then some ⟨b.toNat, h⟩ else none

/-- The Access field by its code (section 11.8). -/
def accessOf (n : Nat) : Access :=
  match n with
  | 0 => .none
  | 1 => .read
  | 2 => .write
  | _ => .readWrite

/-- The code of the Access field (section 11.8). -/
def accessCode : Access → Nat
  | .none => 0
  | .read => 1
  | .write => 2
  | .readWrite => 3

/-- The fields of one map entry record of 8 bytes; its Epoch byte is ignored (R3, section 11.6). -/
def entryFields (b0 b1 h3 h2 h1 h0 : Byte) : EntryFields where
  valid := b0.getLsbD 7
  hostFrame := BitVec.ofNat 32 (u32 h3 h2 h1 h0)
  access := accessOf (b0.toNat / 16 % 4)
  slots := b1.setWidth 6
  mode := if b0.getLsbD 0 then .direct else .buffered

/-- The map entry records of a list of bytes, 8 bytes each (section 11.6). -/
def entryRecords : List Byte → List EntryFields
  | b0 :: b1 :: _ :: _ :: h3 :: h2 :: h1 :: h0 :: rest => entryFields b0 b1 h3 h2 h1 h0 :: entryRecords rest
  | _ => []

/-- MAP_WRITE: FirstIndex (2), Count, reserved, Count records (R11). -/
def parseMapWrite : List Byte → Option Command
  | f1 :: f0 :: c :: _ :: rest =>
    if 1 ≤ c.toNat ∧ c.toNat ≤ 8 ∧ u16 f1 f0 + c.toNat ≤ 512 ∧ rest.length = 8 * c.toNat then
      some (.mapWrite (u16 f1 f0) (entryRecords rest))
    else none
  | _ => none

/-- MAP_READ: FirstIndex (2), Count, reserved (R15). -/
def parseMapRead : List Byte → Option Command
  | [f1, f0, c, _] =>
    if 1 ≤ c.toNat ∧ c.toNat ≤ 16 ∧ u16 f1 f0 + c.toNat ≤ 512 then some (.mapRead (u16 f1 f0) c.toNat) else none
  | _ => none

/-- MAP_INVALIDATE: FirstIndex (2), Count (2) (R13). -/
def parseMapInvalidate : List Byte → Option Command
  | [f1, f0, c1, c0] =>
    if 1 ≤ u16 c1 c0 ∧ u16 c1 c0 ≤ 512 ∧ u16 f1 f0 + u16 c1 c0 ≤ 512 then
      some (.mapInvalidate (u16 f1 f0) (u16 c1 c0))
    else none
  | _ => none

/-- WINDOW_SET: Flags (bit 0 On), reserved (3), Base (4); with On clear the Base is ignored (R16). -/
def parseWindowSet : List Byte → Option Command
  | [fl, _, _, _, b3, b2, b1, b0] =>
    if fl.getLsbD 0 then
      if u32 b3 b2 b1 b0 % 0x800000 = 0 then some (.windowSet true (BitVec.ofNat 32 (u32 b3 b2 b1 b0))) else none
    else some (.windowSet false 0)
  | _ => none

/-- BUFFER_CONTROL: Action, Present (bit 0 GatherIdle, bit 1 ReadAhead), GatherIdle in 0.5 µs units, ReadAhead (bit 0)
(R45). -/
def parseBufferControl : List Byte → Option Command
  | [a, present, g, r] =>
    let action : Option BufferAction :=
      match a.toNat with
      | 1 => some .flush
      | 2 => some .enable
      | 3 => some .disable
      | _ => none
    match action with
    | none => none
    | some act =>
      if present.getLsbD 0 ∧ ¬ (1 ≤ g.toNat ∧ g.toNat ≤ 32) then none
      else
        some (.bufferControl act (if present.getLsbD 0 then some g.toNat else none)
          (if present.getLsbD 1 then some (r.getLsbD 0) else none))
  | _ => none

/-- An optional value lies in its range when present. -/
def inRange (lo hi : Nat) : Option Nat → Bool
  | none => true
  | some v => lo ≤ v && v ≤ hi

/-- Every present field of SET_LIMITS lies in its range (R160). -/
def LimitFields.inRanges (l : LimitFields) : Bool :=
  inRange 1 250 l.readTimeout && inRange 5 1000 l.episodeLimit && inRange 1 100 l.lockLimit &&
    inRange 2 16 l.holdHigh && inRange 0 15 l.holdLow && inRange 1 4096 l.retryLimit

/-- SET_LIMITS: Present (bits 0 to 5 ReadTimeout, EpisodeLimit, LockLimit, HoldHigh, HoldLow, RetryLimit), reserved,
ReadTimeout, HoldHigh, HoldLow, reserved, EpisodeLimit (2), LockLimit, reserved, RetryLimit (2) (R160, section 11.5). -/
def parseSetLimits : List Byte → Option Command
  | [p, _, rt, hh, hl, _, e1, e0, ll, _, r1, r0] =>
    let l : LimitFields :=
      { readTimeout := if p.getLsbD 0 then some rt.toNat else none
        episodeLimit := if p.getLsbD 1 then some (u16 e1 e0) else none
        lockLimit := if p.getLsbD 2 then some ll.toNat else none
        holdHigh := if p.getLsbD 3 then some hh.toNat else none
        holdLow := if p.getLsbD 4 then some hl.toNat else none
        retryLimit := if p.getLsbD 5 then some (u16 r1 r0) else none }
    if l.inRanges then some (.setLimits l) else none
  | _ => none

/-- The actions of SLOT_CONTROL by their codes (section 11.8). -/
def slotAction (b : Byte) : Option SlotAction :=
  match b.toNat with
  | 1 => some .enable
  | 2 => some .disable
  | 3 => some .fence
  | 4 => some .unfence
  | 5 => some .reset
  | 6 => some .mask
  | 7 => some .unmask
  | 8 => some .clearFaults
  | 9 => some .autofenceOn
  | 10 => some .autofenceOff
  | _ => none

/-- SLOT_CONTROL: Slot, Action, reserved (2) (R86). -/
def parseSlotControl : List Byte → Option Command
  | [sl, a, _, _] =>
    match slotOf sl, slotAction a with
    | some slot, some act => some (.slotControl slot act)
    | _, _ => none
  | _ => none

/-- The spaces by their codes (section 11.8). -/
def spaceOf (b : Byte) : Option Space :=
  match b.toNat with
  | 1 => some .memory
  | 2 => some .io
  | 3 => some .identity
  | _ => none

/-- The code of a space (section 11.8). -/
def spaceCode : Space → Nat
  | .memory => 1
  | .io => 2
  | .identity => 3

/-- The number of addresses of a space (R74). -/
def spaceSize : Space → Nat
  | .memory => 2 ^ 32
  | .io => 2 ^ 16
  | .identity => 2 ^ 8

/-- The access of a CARD_READ or CARD_WRITE, less its window and data checks: Space, Slot, Length, reserved, Address (4)
(R113). -/
def accessFields (sp sl len a3 a2 a1 a0 : Byte) : Option AccessFields :=
  match spaceOf sp with
  | none => none
  | some space =>
    let address := u32 a3 a2 a1 a0
    if space = .identity ∧ slotOf sl = none then none
    else if spaceSize space ≤ address then none
    else if len.toNat = 0 ∨ 64 < len.toNat then none
    else if 64 < address % 64 + len.toNat then none
    else
      some { space := space, slot := if space = .identity then slotOf sl else none,
             address := BitVec.ofNat 32 address, length := len.toNat }

/-- CARD_READ (R113). -/
def parseCardRead : List Byte → Option Command
  | [sp, sl, len, _, a3, a2, a1, a0] => (accessFields sp sl len a3 a2 a1 a0).map .cardRead
  | _ => none

/-- CARD_WRITE: as CARD_READ, then Length bytes of data (R113). -/
def parseCardWrite : List Byte → Option Command
  | sp :: sl :: len :: _ :: a3 :: a2 :: a1 :: a0 :: data =>
    if data.length = len.toNat then (accessFields sp sl len a3 a2 a1 a0).map (.cardWrite · data) else none
  | _ => none

/-- EVENT_ACK: Slot, Seq, reserved (2) (R132). -/
def parseEventAck : List Byte → Option Command
  | [sl, n, _, _] => (slotOf sl).map (.eventAck · n)
  | _ => none

/-- The sections of STATUS_QUERY by their codes (section 11.8). -/
def statusSection (b : Byte) : Option StatusSection :=
  match b.toNat with
  | 1 => some .link
  | 2 => some .lines
  | 3 => some .upstream
  | 4 => some .slots
  | 5 => some .locks
  | 6 => some .faults
  | _ => none

/-- STATUS_QUERY: Section, reserved (3) (R163). -/
def parseStatusQuery : List Byte → Option Command
  | [sec, _, _, _] => (statusSection sec).map .statusQuery
  | _ => none

/-- A command that carries no argument bytes (R96, R98, R164). -/
def parseBare (c : Command) : List Byte → Option Command
  | [] => some c
  | _ :: _ => none

/-- Whether a Code is one of the fourteen commands (section 11.5). -/
def knownCode (code : Byte) : Bool := 1 ≤ code.toNat && code.toNat ≤ 14

/-- The command of a Code and its argument bytes, none when a check that needs no state fails (R155 row 6). -/
def parseCommand (code : Byte) (args : List Byte) : Option Command :=
  match code.toNat with
  | 0x01 => parseMapWrite args
  | 0x02 => parseMapRead args
  | 0x03 => parseMapInvalidate args
  | 0x04 => parseWindowSet args
  | 0x05 => parseBufferControl args
  | 0x06 => parseSetLimits args
  | 0x07 => parseSlotControl args
  | 0x08 => parseCardRead args
  | 0x09 => parseCardWrite args
  | 0x0A => parseBare .lockOpen args
  | 0x0B => parseBare .lockClose args
  | 0x0C => parseEventAck args
  | 0x0D => parseStatusQuery args
  | 0x0E => parseBare .bridgeReset args
  | _ => none

/-- Whether an address lies in the window, which must be On (R1). -/
def inWindow (m : PageMap) (a : CardAddr) : Bool :=
  m.on && m.base.toNat ≤ a.toNat && a.toNat ≤ m.base.toNat + 0x7FFFFF

/-- An access that the window takes from the bridge master: MEMORY, window On, Address in the window (R113, R114). -/
def accessInWindow (m : PageMap) (a : AccessFields) : Bool := a.space == .memory && inWindow m a.address

/-- The arrival checks of a command's own rule, the window case of R113 among them. -/
def argumentsPass (m : PageMap) (code : Byte) (args : List Byte) : Bool :=
  match parseCommand code args with
  | none => false
  | some (.cardRead a) => !accessInWindow m a
  | some (.cardWrite a _) => !accessInWindow m a
  | some _ => true

end Sys2Proof.Machine
end

