-- ==== Sys2Proof/Machine/Flags.lean ====
section
/-! DEFINITION. The conditions the blocks compute: write hold, room in the posted-write queue, untransmitted writes,
admission to the reply queue, times remaining, and the output pins as functions of the state. -/

namespace Sys2Proof.Machine

/-! ### Staging lines -/

/-- What a line is bound to; a FREE line is bound to nothing (R20). -/
def Line.binding : Line → Option Binding
  | .free => none
  | .fetching b _ _ _ _ => some b
  | .valid b _ _ _ => some b
  | .error b _ _ => some b
  | .gathering b _ _ _ => some b
  | .closed b _ _ => some b

/-- The line is FREE. -/
def Line.isFree : Line → Bool
  | .free => true
  | _ => false

/-- GATHERING or CLOSED: a write line (R21). -/
def Line.isWrite : Line → Bool
  | .gathering .. => true
  | .closed .. => true
  | _ => false

/-- FETCHING, VALID or ERROR: a read line (R21). -/
def Line.isRead : Line → Bool
  | .fetching .. => true
  | .valid .. => true
  | .error .. => true
  | _ => false

/-- VALID or ERROR: a reclaimable line (R21, R24). -/
def Line.reclaimable : Line → Bool
  | .valid .. => true
  | .error .. => true
  | _ => false

/-- GATHERING (R21). -/
def Line.isGathering : Line → Bool
  | .gathering .. => true
  | _ => false

/-- CLOSED (R21). -/
def Line.isClosed : Line → Bool
  | .closed .. => true
  | _ => false

/-- A stale FETCHING line (R20). -/
def Line.isStale : Line → Bool
  | .fetching _ _ _ stale _ => stale
  | _ => false

/-- The line is bound to the slot. -/
def Line.ofSlot (slot : Slot) (l : Line) : Bool :=
  match l.binding with
  | some b => b.slot == slot
  | none => false

/-- The line is bound to the slot and the host line. -/
def Line.ofSlotLine (slot : Slot) (h : HostAddr) (l : Line) : Bool :=
  match l.binding with
  | some b => b.slot == slot && b.hostLine == h
  | none => false

/-! ### The posted-write queue -/

/-- The write-hold flag after an entry has joined (R67). -/
def holdOnJoin (t : Tracker) : Bool := t.writeHold || decide (t.holdHigh ≤ t.posted.length)

/-- The write-hold flag after an entry has left (R67). -/
def holdOnLeave (t : Tracker) : Bool := t.writeHold && !decide (t.posted.length ≤ t.holdLow)

/-- The write-hold flag tested against new marks (R68). -/
def holdOnLimits (t : Tracker) : Bool :=
  if t.writeHold then !decide (t.posted.length ≤ t.holdLow) else decide (t.holdHigh ≤ t.posted.length)

/-- An EXCL_END waits for room and holds the reserved position (R63, R106). -/
def endWaiting (s : State) : Bool :=
  match s.locks.episode with
  | some e => e.endPending
  | none => false

/-- The posted-write queue has room (R62). -/
def postedRoom (s : State) : Bool := decide (s.tracker.posted.length < Config.postedPlaces)

/-- The posted-write queue has room that is not reserved for a waiting EXCL_END (R63). -/
def unreservedRoom (s : State) : Bool := postedRoom s && !endWaiting s

/-- The slot has a posted entry not yet transmitted (R104 row 6). -/
def hasPosted (slot : Slot) (s : State) : Bool := s.tracker.posted.any (fun p => p.slot == slot)

/-- The slot has an untransmitted write: a GATHERING or CLOSED line or a posted entry (00, Terms; R39). -/
def untransmitted (slot : Slot) (s : State) : Bool :=
  s.staging.lines.items.any (fun l => l.isWrite && l.ofSlot slot) || hasPosted slot s

/-! ### Other conditions -/

/-- The link is UP. -/
def linkUp (s : State) : Bool := s.uplink.linkState == .up

/-- An arrival answer is admitted: the reply queue holds 6 frames or fewer (R153). -/
def answerAdmitted (s : State) : Bool := decide (s.command.replies.length ≤ 6)

/-- The conditions under which the entry at the head of the command queue starts (R158). -/
def readyToStart (s : State) : Bool :=
  s.command.executing.isNone && !s.command.resetting && decide (s.command.replies.length ≤ 7) &&
    s.master.access.isNone && s.command.queue.all (fun e => !e.held)

/-- The host lock is HELD. -/
def lockHeld (s : State) : Bool :=
  match s.locks.hostLock with
  | .held _ => true
  | _ => false

/-- A presentation of the bridge master is on the bus (R115). -/
def masterPresenting (s : State) : Bool :=
  match s.master.access with
  | some a => a.phase == .presenting
  | none => false

/-- The bridge master requests the bus for a downstream access (R81, R116). -/
def accessRequests (s : State) : Bool :=
  match s.master.access with
  | some a => a.phase == .requesting
  | none => false

/-- A number of half microseconds in whole microseconds; the rounding is free (section 11.8; log 5). -/
def wholeMicros (t : Time) : Nat :=
  if t % 2 = 0 then t / 2 else if Config.roundsUp t then t / 2 + 1 else t / 2

/-- The time remaining to a deadline, in µs; 0 when no deadline is present (section 11.8). -/
def remaining (deadline : Option Time) (s : State) : Nat :=
  match deadline with
  | none => 0
  | some d => wholeMicros (d - s.now)

/-! ### Output pins (00, Signal Summary) -/

/-- RST of a slot: asserted while Enabled is no or InReset is yes (R85). -/
def rstPin (slot : Slot) (s : State) : Bool := !eligible slot s

/-- GNT of a slot: asserted while the slot owns the bus (R81, R83). -/
def gntPin (slot : Slot) (s : State) : Bool := s.bus.owner == .slot slot

/-- What the bridge master presents (R117): the record's remainder, with the bus's lock flag (R116). -/
structure MasterPresentation where
  space : Space
  slot : Option Slot
  address : Nat
  transfer : Transfer
  lock : Bool
  deriving DecidableEq, Repr

/-- The presentation of the bridge master on the bus, none when there is none (R117). -/
def masterPresentation (s : State) : Option MasterPresentation :=
  match s.master.access with
  | none => none
  | some a =>
    if a.phase = .presenting then
      some { space := a.space, slot := a.slot, address := a.address.toNat + a.bytesDone,
             transfer := if a.write then .write (a.data.drop a.bytesDone) else .read (a.length - a.bytesDone),
             lock := s.bus.masterLock }
    else none

/-- SEL of a slot: asserted for the duration of an IDENTITY transaction of the bridge master to the slot (R74). -/
def selPin (slot : Slot) (s : State) : Bool :=
  match masterPresentation s with
  | some p => p.space == .identity && p.slot == some slot
  | none => false

end Sys2Proof.Machine
end

