-- ==== Sys2Proof/Machine/Staging.lean ====
section
/-! DEFINITION. The Staging Unit's operations on lines: closing, freeing, allocation, the three drains and the results of
fetches (chapter 2). -/

namespace Sys2Proof.Machine

/-! ### Lines and their order -/

/-- A line of the state. -/
def lineAt (i : LineIx) (s : State) : Line := s.staging.lines.get i

/-- The lowest line index with a property. -/
def findLine (p : Line → Bool) (s : State) : Option LineIx := allLines.find? (fun i => p (lineAt i s))

/-- A line replaced; a VALID or ERROR line goes to the most recent end of the order, any other leaves it (R24). -/
def setLine (i : LineIx) (l : Line) (s : State) : State :=
  s.setStaging
    { s.staging with
      lines := s.staging.lines.set i l
      lru := s.staging.lru.filter (· ≠ i) ++ (if l.reclaimable then [i] else []) }

/-- Closing a GATHERING line makes it CLOSED and appends it to the closed-order list (R36). -/
def closeLine (s : State) (i : LineIx) : State :=
  match lineAt i s with
  | .gathering b data v _ =>
    s.setStaging
      { s.staging with lines := s.staging.lines.set i (.closed b data v), closedOrder := s.staging.closedOrder ++ [i] }
  | _ => s

/-- The GATHERING lines with a property. -/
def gatheringWhere (p : Binding → Bool) (s : State) : List LineIx :=
  allLines.filter (fun i => (lineAt i s).isGathering && (lineAt i s).binding.any p)

/-- Closing of every GATHERING line with a property, in a free order (log 7). -/
def closeWhere (p : Binding → Bool) (s : State) : State :=
  let lines := gatheringWhere p s
  ((freeOrder s.freeIndex lines).foldl closeLine s).setFreeIndex (s.freeIndex + lines.length)

/-- Closing of the slot's GATHERING line, if it has one (R26, R36); R22 allows it one. -/
def closeGathering (slot : Slot) (s : State) : State := (gatheringWhere (fun b => b.slot == slot) s).foldl closeLine s

/-- Freeing of one line: VALID and ERROR become FREE, FETCHING becomes stale (R38). -/
def Line.freed : Line → Line
  | .valid .. => .free
  | .error .. => .free
  | .fetching b f r _ t => .fetching b f r true t
  | l => l

/-- Freeing of every read line with a property (R38). -/
def freeReads (p : Line → Bool) (s : State) : State :=
  s.setStaging
    { s.staging with
      lines := s.staging.lines.map (fun l => if p l then l.freed else l)
      lru := s.staging.lru.filter (fun i => !p (lineAt i s)) }

/-- Freeing of the slot's read lines (R38). -/
def freeSlotReads (slot : Slot) (s : State) : State := freeReads (Line.ofSlot slot) s

/-- Freeing of every read line of every slot (R38, R43). -/
def freeAllReads (s : State) : State := freeReads (fun l => !l.isFree) s

/-- What fence, disable and reset of a slot do to its lines (R44). -/
def quiesceSlot (slot : Slot) (s : State) : State := freeSlotReads slot (closeGathering slot s)

/-- A line is current when its Epoch is the entry's (R9). -/
def current (b : Binding) (s : State) : Bool := b.epoch == (s.pageMap.entries.get b.mapIndex).epoch

/-- The number of read lines of a slot, stale ones counted (R22). -/
def readLineCount (slot : Slot) (s : State) : Nat :=
  (s.staging.lines.items.filter (fun l => l.isRead && l.ofSlot slot)).length

/-- Steps 3 to 5 of R25: the lowest FREE line, else the least recently used reclaimable line of any slot. -/
def takeLine (s : State) : Option (LineIx × State) :=
  match findLine Line.isFree s with
  | some i => some (i, s)
  | none =>
    match s.staging.lru with
    | i :: _ => some (i, setLine i .free s)
    | [] => none

/-- Step 2 of R25: a slot that holds two read lines reclaims its own least recently used one. -/
def makeQuota (slot : Slot) (s : State) : Option State :=
  if readLineCount slot s < 2 then some s
  else
    match s.staging.lru.find? (fun i => (lineAt i s).ofSlot slot) with
    | some i => some (setLine i .free s)
    | none => none

/-! ### Gathering -/

/-- Bytes merged into a GATHERING line, its deadline restarted; a full line is closed (R33 step 3). -/
def mergeInto (i : LineIx) (offset : Nat) (bytes : List Byte) (s : State) : State :=
  match lineAt i s with
  | .gathering b data v _ =>
    let valid := v ||| byteSpan offset bytes.length
    let merged := setLine i (.gathering b (mergeBytes data offset bytes) valid (s.now + s.staging.gatherIdle)) s
    if valid = BitVec.allOnes 64 then closeLine merged i else merged
  | _ => s

/-- A FREE line bound GATHERING with no byte valid; its bytes are free (R33 step 4; log 6). -/
def bindGathering (i : LineIx) (b : Binding) (s : State) : State :=
  (setLine i (.gathering b (freeBytes s.freeIndex) 0 (s.now + s.staging.gatherIdle)) s).setFreeIndex (s.freeIndex + 1)

/-! ### Slot drains (R39) -/

/-- Who asked for a slot drain (R28, R43). -/
inductive Requester where
  | miss
  | event
  | episode
  deriving DecidableEq, Repr

/-- A slot's drains changed. -/
def setDrains (slot : Slot) (d : SlotDrains) (s : State) : State :=
  s.setStaging { s.staging with slotDrains := s.staging.slotDrains.set slot d }

/-- A slot drain begins: the GATHERING line is closed, and the drain runs while the slot has untransmitted writes. Complete
at its start it is not recorded: `drainDone` says so to the requester (R39). -/
def startSlotDrain (r : Requester) (slot : Slot) (s : State) : State :=
  let closed := closeGathering slot s
  let d := closed.staging.slotDrains.get slot
  let phase : DrainPhase := if untransmitted slot closed then .running else .idle
  match r with
  | .miss => setDrains slot { d with unowned := phase } closed
  | .event => setDrains slot { d with event := phase } closed
  | .episode => setDrains slot { d with episode := phase } closed

/-- A drain whose requester no longer waits for it goes on without requester (R102, R130). -/
def DrainPhase.disowned (own other : DrainPhase) : DrainPhase :=
  match own with
  | .running => .running
  | _ => other

/-- The event's drain is no longer waited for (R130). -/
def dropEventDrain (slot : Slot) (s : State) : State :=
  let d := s.staging.slotDrains.get slot
  setDrains slot { d with event := .idle, unowned := d.event.disowned d.unowned } s

/-- The episode's drain is no longer waited for (R102, R107). -/
def dropEpisodeDrain (slot : Slot) (s : State) : State :=
  let d := s.staging.slotDrains.get slot
  setDrains slot { d with episode := .idle, unowned := d.episode.disowned d.unowned } s

/-- A slot's drains when the slot has no untransmitted writes left: each running drain is complete (R39; log 8). -/
def SlotDrains.finish (d : SlotDrains) : SlotDrains where
  unowned := .idle
  event := if d.event = .running then .complete else d.event
  episode := if d.episode = .running then .complete else d.episode

/-! ### Global drain and map barrier (R40, R41) -/

/-- The mark of a global drain, none when it is complete at its start (R40). -/
def globalMark (s : State) : Option Mark :=
  match s.staging.closedOrder.getLast? with
  | some i => some (.line i)
  | none => s.tracker.posted.getLast?.map (fun p => .posted p.number)

/-- A global drain begins (R40). Complete at its start it leaves no mark. -/
def startGlobalDrain (s : State) : State :=
  let closed := closeWhere (fun _ => true) s
  closed.setStaging { closed.staging with globalDrain := globalMark closed }

/-- The mark of a map barrier over the lines with a property, none when it is complete at its start (R41). -/
def barrierMark (p : Binding → Bool) (s : State) : Option Mark :=
  (s.staging.closedOrder.filter (fun i => (lineAt i s).binding.any p)).getLast?.map .line

/-- A map barrier begins over the lines with a property: they are closed, freed or made stale (R41). -/
def startMapBarrier (p : Binding → Bool) (s : State) : State :=
  let acted := freeReads (fun l => l.binding.any p) (closeWhere p s)
  acted.setStaging { acted.staging with mapBarrier := barrierMark p acted }

/-- A mark that names a line names the posted entry once the line has moved (R40, R41). -/
def Mark.moved (i : LineIx) (n : BitVec 16) (m : Mark) : Mark := if m = .line i then .posted n else m

/-- A mark whose entry has been transmitted (R40, R41; log 8). -/
def Mark.sent (n : BitVec 16) (m : Mark) : Mark := if m = .posted n then .transmitted else m

/-! ### Results of fetches -/

/-- What a retired request gives its Purpose (R55, R56). -/
inductive FetchResult where
  | data (bytes : List Byte)
  | error (kind : FaultKind)
  deriving DecidableEq, Repr

/-- A FETCHING line after the result of its tag (R32). -/
def Line.result (r : FetchResult) : Line → Line
  | .fetching b f readStart false tag =>
    match r with
    | .data bytes => .valid b f bytes (readStart.getD f.start)
    | .error _ => .error b f tag
  | .fetching _ _ _ true _ => .free
  | l => l

/-- The result of a LINE_FETCH tag reaches its line (R32, R58). -/
def lineResult (i : LineIx) (r : FetchResult) (s : State) : State :=
  match lineAt i s with
  | .fetching b f readStart stale tag => setLine i (Line.result r (.fetching b f readStart stale tag)) s
  | _ => s

end Sys2Proof.Machine
end

