-- ==== Sys2Proof/Machine/Faults.lean ====
section
/-! DEFINITION. Fences and the Fault Unit: admission of a fault, the summaries and the DISCARD record (chapter 8). -/

namespace Sys2Proof.Machine

/-- A fence: Fenced becomes yes, and the slot's lines are closed and freed; nothing changes on a fenced slot (R89, R44). -/
def fence (slot : Slot) (s : State) : State :=
  let r := s.bus.slots.get slot
  if r.fenced then s else quiesceSlot slot (setSlot slot { r with fenced := true } s)

/-- The kinds that fence their slot (R141). -/
def FaultKind.fencing : FaultKind → Bool
  | .mapMiss => true
  | .slotDenied => true
  | .accessDenied => true
  | .exclOverrun => true
  | _ => false

/-- The code of a kind (section 11.7). -/
def FaultKind.code : FaultKind → Nat
  | .mapMiss => 1
  | .slotDenied => 2
  | .accessDenied => 3
  | .readTimeout => 4
  | .hostError => 5
  | .completionMismatch => 6
  | .unexpectedCompletion => 7
  | .exclOverrun => 8
  | .exclRefused => 9
  | .commandOverflow => 10
  | .creditOverflow => 11
  | .discard => 12

/-- The bit of a kind in a slot's summary: the order of the codes, UNEXPECTED_COMPLETION left out (section 11.7). -/
def FaultKind.summaryBit : FaultKind → BitVec 8
  | .mapMiss => 0x01
  | .slotDenied => 0x02
  | .accessDenied => 0x04
  | .readTimeout => 0x08
  | .hostError => 0x10
  | .completionMismatch => 0x20
  | .exclOverrun => 0x40
  | .exclRefused => 0x80
  | .unexpectedCompletion => 0
  | .commandOverflow => 0
  | .creditOverflow => 0
  | .discard => 0

/-- The kind joins the summary of the slot that the fault carries (R142 step 1, R147). -/
def markSummary (r : FaultReport) (s : State) : State :=
  match r.slot with
  | some slot =>
    s.setFaults
      { s.faults with
        summaries := s.faults.summaries.set slot (s.faults.summaries.get slot ||| r.kind.summaryBit) }
  | none => s

/-- Whether this fault fences its slot: a fencing kind, Autofence yes and Fenced no (R143). -/
def autofences (r : FaultReport) (s : State) : Bool :=
  match r.slot with
  | some slot => r.kind.fencing && (s.bus.slots.get slot).autofence && !(s.bus.slots.get slot).fenced
  | none => false

/-- The autofence applied (R142 step 2, R143). -/
def applyAutofence (r : FaultReport) (s : State) : State :=
  match r.slot with
  | some slot => if autofences r s then fence slot s else s
  | none => s

/-- Admission to the fault queue, or the drop (R142 steps 3 and 4, R144, R145). -/
def admitFault (r : FaultReport) (fenced : Bool) (s : State) : State :=
  if s.faults.queue.length < Config.faultPlaces then
    s.setFaults
      { s.faults with
        queue := s.faults.queue ++
          [{ seq := s.faults.nextSeq, report := r, fenced := fenced, lostBefore := s.faults.dropped }]
        dropped := 0
        nextSeq := s.faults.nextSeq + 1 }
  else s.setFaults { s.faults with dropped := satInc s.faults.dropped }

/-- The Fault Unit takes a fault (R142). -/
def takeFault (r : FaultReport) (s : State) : State :=
  let marked := markSummary r s
  admitFault r (autofences r marked) (applyAutofence r marked)

/-- The DISCARD record of a link loss or a bridge reset (R148, R149). -/
def discardReport (cause : DiscardCause) (writes reads commands : Nat) : FaultReport where
  kind := .discard
  discard := some { cause := cause, writes := writes, reads := reads, commands := commands }

end Sys2Proof.Machine
end

