-- ==== Sys2Proof/Machine/Tracker.lean ====
section
/-! DEFINITION. The Upstream Tracker's operations: tags, the request queue and the posted-write queue (chapter 3). -/

namespace Sys2Proof.Machine

/-! ### Tags -/

/-- The FREE tag of lowest index (R50). -/
def lowestFreeTag (s : State) : Option TagIx := allTags.find? (fun i => (s.tracker.tags.get i).state == .free)

/-- A tag is allocated: the lowest FREE one becomes WAITING and joins the request queue (R50). -/
def allocateTag (r : Request) (s : State) : Option (TagRef × State) :=
  match lowestFreeTag s with
  | none => none
  | some i =>
    let g := (s.tracker.tags.get i).generation
    some (⟨i, g⟩,
      s.setTracker
        { s.tracker with
          tags := s.tracker.tags.set i ⟨.waiting r, g⟩
          requestQueue := s.tracker.requestQueue ++ [i] })

/-- A tag record after retirement: FREE, Generation advanced (R51). -/
def TagRecord.retired (t : TagRecord) : TagRecord := ⟨.free, t.generation + 1⟩

/-- A tag retires (R51). -/
def retireTag (i : TagIx) (s : State) : State :=
  s.setTracker { s.tracker with tags := s.tracker.tags.set i (s.tracker.tags.get i).retired }

/-- A tag is busy (R49). -/
def TagRecord.busy (t : TagRecord) : Bool := !(t.state == .free)

/-- The tags after a discard: every busy one retires (R70, R71). -/
def retireAll (tags : Table TagRecord 16) : Table TagRecord 16 := tags.map (fun t => if t.busy then t.retired else t)

/-- A FREE line is bound FETCHING under a new tag, and its MEM_READ enters the request queue (R28, R30). -/
def bindFetch (i : LineIx) (b : Binding) (f : FetchSpan) (readStart : Option Nat) (s : State) : State :=
  match allocateTag
      { purpose := .lineFetch i, hostAddress := b.hostLine + BitVec.ofNat 48 f.start, length := f.stop - f.start,
        slot := b.slot } s with
  | some (tag, allocated) => setLine i (.fetching b f readStart false tag) allocated
  | none => s

/-! ### The posted-write queue -/

/-- An entry joins the tail of the posted-write queue with the next PostedNumber, and write hold is tested (R63, R64, R67). -/
def joinPosted (slot : Slot) (kind : PostedKind) (hostAddress : HostAddr) (locked : Bool) (s : State) : State :=
  let t : Tracker :=
    { s.tracker with
      posted := s.tracker.posted ++
        [{ slot := slot, kind := kind, hostAddress := hostAddress, locked := locked, number := s.tracker.nextPosted }]
      nextPosted := s.tracker.nextPosted + 1 }
  s.setTracker { t with writeHold := holdOnJoin t }

/-- A card's write becomes one posted entry; the bytes it does not write are free (R34 step 4, R105 row 5; log 6). -/
def postWrite (slot : Slot) (hostAddress : HostAddr) (bytes : List Byte) (locked : Bool) (s : State) : State :=
  let o := hostAddress.toNat % 64
  (joinPosted slot (.write (byteSpan o bytes.length) (mergeBytes (freeBytes s.freeIndex) o bytes)) hostAddress locked
    s).setFreeIndex (s.freeIndex + 1)

/-- The Staging Unit's drains learn that an entry has been transmitted (R39, R40, R41, R64). -/
def reportTransmitted (p : PostedEntry) (s : State) : State :=
  let d := s.staging.slotDrains.get p.slot
  s.setStaging
    { s.staging with
      slotDrains := if untransmitted p.slot s then s.staging.slotDrains else s.staging.slotDrains.set p.slot d.finish
      globalDrain := s.staging.globalDrain.map (Mark.sent p.number)
      mapBarrier := s.staging.mapBarrier.map (Mark.sent p.number) }

/-- The head of the posted-write queue leaves it, and write hold is tested (R65, R67). -/
def leavePosted (rest : List PostedEntry) (s : State) : State :=
  let t : Tracker := { s.tracker with posted := rest }
  s.setTracker { t with writeHold := holdOnLeave t }

/-- The head of the closed-order list moves to the posted-write queue, and its line becomes FREE (R37). -/
def moveClosed (s : State) : State :=
  match s.staging.closedOrder with
  | [] => s
  | i :: rest =>
    match lineAt i s with
    | .closed b data v =>
      let n := s.tracker.nextPosted
      let moved :=
        s.setStaging
          { s.staging with
            lines := s.staging.lines.set i .free
            closedOrder := rest
            globalDrain := s.staging.globalDrain.map (Mark.moved i n)
            mapBarrier := s.staging.mapBarrier.map (Mark.moved i n) }
      joinPosted b.slot (.write v data) b.hostLine false moved
    | _ => s

/-! ### Discards (R47, R70, R71) -/

/-- The accepted writes that a discard takes: write lines and WRITE entries (R47, R70). -/
def writesHeld (s : State) : Nat :=
  (s.staging.lines.items.filter Line.isWrite).length +
    (s.tracker.posted.filter (fun p => match p.kind with | .write .. => true | .exclEnd => false)).length

/-- The busy tags that a discard retires (R70). -/
def busyTags (s : State) : Nat := (s.tracker.tags.items.filter TagRecord.busy).length

/-- The tracker at a link loss (R70). -/
def discardTracker (t : Tracker) : Tracker :=
  { t with tags := retireAll t.tags, requestQueue := [], posted := [], writeHold := false }

end Sys2Proof.Machine
end

