-- ==== Sys2Proof/Machine/PageMap.lean ====
section
/-! DEFINITION. The Page Map: translation (section 1.3) and the start of the map commands (section 1.5). -/

namespace Sys2Proof.Machine

/-! ### Translation -/

/-- The result record of a translated access (R8). HostLine and the line offset are computed from HostAddress (R4). -/
structure Translation where
  slot : Slot
  hostAddress : HostAddr
  mapIndex : EntryIx
  epoch : BitVec 8
  mode : PageMode
  deriving DecidableEq, Repr

/-- The line offset: the low six bits of the host address (R4). -/
def Translation.offset (t : Translation) : Nat := t.hostAddress.toNat % 64

/-- The host line address: the host address with its low six bits zero (R4). -/
def hostLineOf (a : HostAddr) : HostAddr := a &&& 0xFFFFFFFFFFC0

/-- The host line address of an access (R4). -/
def Translation.hostLine (t : Translation) : HostAddr := hostLineOf t.hostAddress

/-- The binding that an access gives a line (R28, R33). -/
def Translation.binding (t : Translation) : Binding where
  slot := t.slot
  hostLine := t.hostLine
  mapIndex := t.mapIndex
  epoch := t.epoch

/-- The entry index of a card address in the window (R4). -/
def entryIndex (m : PageMap) (a : CardAddr) : EntryIx := Fin.ofNat 512 ((a.toNat - m.base.toNat) / 16384)

/-- The page offset of a card address in the window (R4). -/
def pageOffset (m : PageMap) (a : CardAddr) : Nat := (a.toNat - m.base.toNat) % 16384

/-- Whether Access permits an access (R7). -/
def Access.permits (a : Access) (write lock : Bool) : Bool :=
  match a with
  | .none => false
  | .read => !write && !lock
  | .write => write && !lock
  | .readWrite => true

/-- The outcome of a translation request (R6). -/
inductive Translated where
  | refused (kind : FaultKind)
  | passed (t : Translation)
  deriving DecidableEq, Repr

/-- The checks of R6 in their order, and the result record of R8. -/
def translate (m : PageMap) (slot : Slot) (a : CardAddr) (write lock : Bool) : Translated :=
  let i := entryIndex m a
  let e := m.entries.get i
  if !e.valid then .refused .mapMiss
  else if !slotIn e.slots slot then .refused .slotDenied
  else if !e.access.permits write lock then .refused .accessDenied
  else
    .passed
      { slot := slot, hostAddress := BitVec.ofNat 48 (e.hostFrame.toNat * 16384 + pageOffset m a), mapIndex := i,
        epoch := e.epoch, mode := e.mode }

/-! ### Map commands -/

/-- The index of an entry lies in the range of a map command (R11, R13). -/
def covers (first count i : Nat) : Bool := decide (first ≤ i) && decide (i < first + count)

/-- The lines that a map barrier covers: their entry is in the range and their Epoch is the entry's (R14). -/
def barrierCovers (m : PageMap) (first count : Nat) (b : Binding) : Bool :=
  covers first count b.mapIndex.val && b.epoch == (m.entries.get b.mapIndex).epoch

/-- An entry rewritten by a MAP_WRITE record, its Epoch advanced (R11, R3). -/
def MapEntry.written (e : MapEntry) (f : EntryFields) : MapEntry where
  valid := f.valid
  hostFrame := f.hostFrame
  access := f.access
  slots := f.slots
  mode := f.mode
  epoch := e.epoch + 1

/-- An entry invalidated, its Epoch advanced (R13, R3). -/
def MapEntry.invalidated (e : MapEntry) : MapEntry := { e with valid := false, epoch := e.epoch + 1 }

/-- The table after a MAP_WRITE of consecutive entries (R11). -/
def writeEntries (first : Nat) (records : List EntryFields) (t : Table MapEntry 512) : Table MapEntry 512 :=
  t.mapIx (fun i e =>
    if first ≤ i then match records[i - first]? with | some f => e.written f | none => e else e)

/-- The table after a MAP_INVALIDATE (R13). -/
def invalidateEntries (first count : Nat) (t : Table MapEntry 512) : Table MapEntry 512 :=
  t.mapIx (fun i e => if covers first count i then e.invalidated else e)

/-- The end of a map barrier's start: the reply is queued at once when the barrier is complete at its start (R14). -/
def awaitBarrier (s : State) : State :=
  match s.staging.mapBarrier with
  | none => complete .ok [] s
  | some _ => setWait .barrier s

/-- The end of a global drain's start: the reply is queued at once when the drain is complete at its start (R17, R46). -/
def awaitDrain (s : State) : State :=
  match s.staging.globalDrain with
  | none => complete .ok [] s
  | some _ => setWait .drain s

/-- MAP_WRITE starts: the entries change in one step and the map barrier over them begins (R11). -/
def startMapWrite (first : Nat) (records : List EntryFields) (s : State) : State :=
  let begun := startMapBarrier (barrierCovers s.pageMap first records.length) s
  awaitBarrier (begun.setPageMap { s.pageMap with entries := writeEntries first records s.pageMap.entries })

/-- MAP_INVALIDATE starts (R13). -/
def startMapInvalidate (first count : Nat) (s : State) : State :=
  let begun := startMapBarrier (barrierCovers s.pageMap first count) s
  awaitBarrier (begun.setPageMap { s.pageMap with entries := invalidateEntries first count s.pageMap.entries })

/-- A global drain begins and every read line of every slot is freed (R43, last row). -/
def drainAndFree (s : State) : State := freeAllReads (startGlobalDrain s)

/-- WINDOW_SET starts: the setting changes, and the global drain with freeing begins; Base is kept when On is no (R16). -/
def startWindowSet (on : Bool) (base : CardAddr) (s : State) : State :=
  awaitDrain
    (drainAndFree (s.setPageMap { s.pageMap with on := on, base := if on then base else s.pageMap.base }))

/-- The start of a map command that waits for the episode (R10). -/
def mapStart : Command → Option (State → State)
  | .mapWrite first records => some (startMapWrite first records)
  | .mapInvalidate first count => some (startMapInvalidate first count)
  | .windowSet on base => some (startWindowSet on base)
  | _ => none

/-- A map command that has just become the executing command starts, or waits for the episode (R10). -/
def startUnlessEpisode (start : State → State) (s : State) : State :=
  match s.locks.episode with
  | none => start s
  | some _ => setWait .episode s

/-- The map command that waits for the episode starts, if there is one (R10, R109). -/
def startWaiting (s : State) : State :=
  match s.command.executing with
  | some e =>
    if e.wait = .episode then
      match (parseCommand e.code e.args).bind mapStart with
      | some start => start (setWait .none s)
      | none => s
    else s
  | none => s

/-! ### MAP_READ -/

/-- The map entry record of an entry (section 11.6). -/
def entryRecord (e : MapEntry) : List Byte :=
  [BitVec.ofNat 8 (flag e.valid 7 + 16 * accessCode e.access + (match e.mode with | .buffered => 0 | .direct => 1)),
    e.slots.setWidth 8, e.epoch, 0] ++ be 4 e.hostFrame.toNat

/-- The body of a MAP_READ reply: FirstIndex, Count, reserved, and the entries in index order (R15, section 11.5). -/
def mapReadBody (first count : Nat) (m : PageMap) : List Byte :=
  be 2 first ++ [BitVec.ofNat 8 count, 0] ++ ((m.entries.items.drop first).take count).flatMap entryRecord

/-- MAP_READ executes (R15). -/
def startMapRead (first count : Nat) (s : State) : State := complete .ok (mapReadBody first count s.pageMap) s

end Sys2Proof.Machine
end

