-- ==== Sys2Proof/Machine/CommandUnit.lean ====
section
/-! DEFINITION. The start of ordered commands (R158) and the steps that end a command's barrier or drain (R14, R17, R46). -/

namespace Sys2Proof.Machine

/-- The head entry becomes the executing command with Wait NONE, and its credit is returned (R158, R154). -/
def beginHead (e : CommandEntry) (rest : List CommandEntry) (s : State) : State :=
  returnCredit
    (s.setCommand
      { s.command with queue := rest, executing := some { tag := e.tag, code := e.code, args := e.args, wait := .none } })

/-- The command at the head of the ordered sequence starts, if it may start and is the one that `start` takes (R158). -/
def runHead (start : Command → Option (State → State)) (s : State) : State :=
  match s.command.queue with
  | [] => s
  | e :: rest =>
    if readyToStart s then
      match (parseCommand e.code e.args).bind start with
      | some f => f (beginHead e rest s)
      | none => s
    else s

/-- MAP_WRITE at the head of the ordered sequence (R11). -/
def execMapWrite (s : State) : Host.Outcome State Fault Refusal :=
  .next (runHead (fun c => match c with
    | .mapWrite first records => some (startUnlessEpisode (startMapWrite first records))
    | _ => none) s)

/-- MAP_READ at the head of the ordered sequence (R15). -/
def execMapRead (s : State) : Host.Outcome State Fault Refusal :=
  .next (runHead (fun c => match c with
    | .mapRead first count => some (startMapRead first count)
    | _ => none) s)

/-- MAP_INVALIDATE at the head of the ordered sequence (R13). -/
def execMapInvalidate (s : State) : Host.Outcome State Fault Refusal :=
  .next (runHead (fun c => match c with
    | .mapInvalidate first count => some (startUnlessEpisode (startMapInvalidate first count))
    | _ => none) s)

/-- WINDOW_SET at the head of the ordered sequence (R16). -/
def execWindowSet (s : State) : Host.Outcome State Fault Refusal :=
  .next (runHead (fun c => match c with
    | .windowSet on base => some (startUnlessEpisode (startWindowSet on base))
    | _ => none) s)

/-! ### BUFFER_CONTROL (R46) -/

/-- The settings that a BUFFER_CONTROL carries; absent ones are unchanged (R46). -/
def applyBufferFields (gatherIdle : Option Nat) (readAhead : Option Bool) (s : State) : State :=
  s.setStaging
    { s.staging with
      gatherIdle := gatherIdle.getD s.staging.gatherIdle
      readAhead := readAhead.getD s.staging.readAhead }

/-- Buffering set (R46). -/
def setBuffering (on : Bool) (s : State) : State := s.setStaging { s.staging with buffering := on }

/-- BUFFER_CONTROL FLUSH at the head of the ordered sequence (R46). -/
def execBufferControlFlush (s : State) : Host.Outcome State Fault Refusal :=
  .next (runHead (fun c => match c with
    | .bufferControl .flush g r => some (fun t => awaitDrain (drainAndFree (applyBufferFields g r t)))
    | _ => none) s)

/-- BUFFER_CONTROL ENABLE at the head of the ordered sequence (R46). -/
def execBufferControlEnable (s : State) : Host.Outcome State Fault Refusal :=
  .next (runHead (fun c => match c with
    | .bufferControl .enable g r => some (fun t => complete .ok [] (setBuffering true (applyBufferFields g r t)))
    | _ => none) s)

/-- BUFFER_CONTROL DISABLE at the head of the ordered sequence (R46). -/
def execBufferControlDisable (s : State) : Host.Outcome State Fault Refusal :=
  .next (runHead (fun c => match c with
    | .bufferControl .disable g r =>
      some (fun t => awaitDrain (drainAndFree (setBuffering false (applyBufferFields g r t))))
    | _ => none) s)

/-! ### SET_LIMITS (R161) -/

/-- SET_LIMITS executes: the pair of marks that would result is tested, then every present field is set (R161, R68). -/
def applyLimits (l : LimitFields) (s : State) : State :=
  let high := l.holdHigh.getD s.tracker.holdHigh
  let low := l.holdLow.getD s.tracker.holdLow
  if low < high then
    let t : Tracker :=
      { s.tracker with holdHigh := high, holdLow := low, readTimeout := l.readTimeout.getD s.tracker.readTimeout }
    complete .ok []
      (((s.setTracker { t with writeHold := holdOnLimits t }).setLocks
        { s.locks with
          episodeLimit := l.episodeLimit.getD s.locks.episodeLimit
          lockLimit := l.lockLimit.getD s.locks.lockLimit }).setMaster
        { s.master with retryLimit := l.retryLimit.getD s.master.retryLimit })
  else complete .badArgument [] s

/-- SET_LIMITS at the head of the ordered sequence (R161). -/
def execSetLimits (s : State) : Host.Outcome State Fault Refusal :=
  .next (runHead (fun c => match c with
    | .setLimits l => some (applyLimits l)
    | _ => none) s)

/-! ### Completions -/

/-- The completed map barrier is reported to the Page Map: the command's reply is queued (R14, R11, R13). -/
def execMapBarrierComplete (s : State) : Host.Outcome State Fault Refusal :=
  .next
    (if s.staging.mapBarrier = some .transmitted then
      complete .ok [] (s.setStaging { s.staging with mapBarrier := none })
    else s)

/-- The completed global drain is reported: a DRAINING CARD_READ replies with its data, any other command OK (R122, R17,
R46). -/
def finishDrain (s : State) : State :=
  match s.master.access with
  | some a =>
    if a.phase = .draining then
      complete .ok ([BitVec.ofNat 8 a.bytesDone, 0, 0, 0] ++ a.data) (s.setMaster { s.master with access := none })
    else complete .ok [] s
  | none => complete .ok [] s

/-- The completed global drain is reported to its requester (R40). -/
def execGlobalDrainComplete (s : State) : Host.Outcome State Fault Refusal :=
  .next
    (if s.staging.globalDrain = some .transmitted then
      finishDrain (s.setStaging { s.staging with globalDrain := none })
    else s)

/-- The reinitialisation of a bridge reset completes (R165). -/
def execReinitialisationComplete (s : State) : Host.Outcome State Fault Refusal :=
  .next
    (if s.command.resetting then
      let running := s.setCommand { s.command with resetting := false }
      if linkUp s then queueReport (.notice .resetDone) running else running
    else s)

end Sys2Proof.Machine
end

