-- ==== Sys2Proof/Machine/Locks.lean ====
section
/-! DEFINITION. The Lock Unit: the exclusive episode, locked accesses, the results of its tags, and the host lock (chapter
5). -/

namespace Sys2Proof.Machine

/-! ### The episode's end -/

/-- The episode record replaced. -/
def setEpisode (e : Option Episode) (s : State) : State := s.setLocks { s.locks with episode := e }

/-- The episode returns to NONE, and the map command that waits for it starts (R109, R10; log 9). -/
def toNone (s : State) : State := startWaiting (setEpisode none s)

/-- An EXCL_END joins the posted-write queue and the episode returns to NONE (R106). -/
def joinEnd (e : Episode) (s : State) : State := toNone (joinPosted e.slot .exclEnd e.hostAddress true s)

/-- An EXCL_END is posted, or waits with the reserved position while the queue is full (R106). -/
def postEnd (e : Episode) (s : State) : State :=
  if postedRoom s then joinEnd e s else setEpisode (some { e with endPending := true }) s

/-! ### Beginning an episode -/

/-- The Lock Unit asks for the EXCL_BEGIN's tag; a refusal changes nothing (R102). -/
def askBegin (e : Episode) (s : State) : State :=
  match allocateTag { purpose := .exclBegin, hostAddress := e.hostAddress, length := 0, slot := e.slot } s with
  | some (tag, allocated) => setEpisode (some { e with beginQueued := true, beginTag := some tag }) allocated
  | none => s

/-- The slot drain of an episode in REQUESTED is reported complete (R102). -/
def episodeDrained (slot : Slot) (s : State) : State :=
  match s.locks.episode with
  | some e => if e.state = .requested ∧ e.slot = slot ∧ e.beginQueued = false then askBegin e s else s
  | none => s

/-- A locked access in NONE of a slot that is not in AbortNext begins an episode, whose drain may be complete at its start
(R101, R43, R39). -/
def beginEpisode (t : Translation) (s : State) : State :=
  let e : Episode :=
    { state := .requested, slot := t.slot, hostAddress := t.hostAddress, beginQueued := false, beginTag := none,
      limit := some (s.now + Config.us s.locks.episodeLimit), heldRead := none, endPending := false }
  let begun := startSlotDrain .episode t.slot (setEpisode (some e) s)
  if (begun.staging.slotDrains.get t.slot).episode = .idle then episodeDrained t.slot begun else begun

/-! ### Locked accesses -/

/-- The answer of a block to a presentation (chapter 2, section 2.3). -/
inductive Answer where
  | complete (data : List Byte)
  | retry
  | abort
  deriving DecidableEq, Repr

/-- The fetch span of a direct or locked read, widened to 4 bytes (R31, R104). -/
def directSpan (o n : Nat) : FetchSpan where
  direct := true
  start := o / 4 * 4
  stop := (o + n + 3) / 4 * 4

/-- A HeldRead is for this very read (R104). -/
def HeldRead.isFor (h : HeldRead) (t : Translation) (n : Nat) : Bool :=
  h.hostAddress == t.hostAddress && h.offset == t.offset && h.length == n

/-- Rows 6 and 7 of R104, for an episode whose HeldRead is absent or of another read and has its result. -/
def openLockedRead (e : Episode) (t : Translation) (n : Nat) (s : State) : State :=
  let cleared := setEpisode (some { e with heldRead := none }) s
  if hasPosted e.slot s then cleared
  else
    let f := directSpan t.offset n
    match allocateTag
        { purpose := .lockedRead, hostAddress := t.hostLine + BitVec.ofNat 48 f.start, length := f.stop - f.start,
          slot := e.slot } cleared with
    | some (tag, allocated) =>
      setEpisode
        (some { e with
          heldRead := some { hostAddress := t.hostAddress, offset := t.offset, length := n, tag := tag, result := .waiting } })
        allocated
    | none => cleared

/-- A locked read in OPEN (R104). -/
def lockedRead (e : Episode) (t : Translation) (n : Nat) (s : State) : Answer × State :=
  if e.endPending then (.retry, s)
  else
    match e.heldRead with
    | none => (.retry, openLockedRead e t n s)
    | some h =>
      match h.result with
      | .waiting => (.retry, s)
      | .data bytes =>
        if h.isFor t n then
          (.complete ((bytes.drop (t.offset % 4)).take n), setEpisode (some { e with heldRead := none }) s)
        else (.retry, openLockedRead e t n s)
      | .error =>
        if h.isFor t n then (.abort, setEpisode (some { e with heldRead := none }) s)
        else (.retry, openLockedRead e t n s)

/-- A HeldRead has no result yet. -/
def HeldRead.isWaiting (h : HeldRead) : Bool := h.result == .waiting

/-- A locked write in OPEN (R105). -/
def lockedWrite (e : Episode) (t : Translation) (bytes : List Byte) (s : State) : Answer × State :=
  if e.endPending then (.retry, s)
  else if e.heldRead.any HeldRead.isWaiting then (.retry, s)
  else if s.tracker.writeHold then (.retry, s)
  else if s.staging.closedOrder ≠ [] ∨ postedRoom s = false then (.retry, s)
  else
    (.complete [], postWrite e.slot t.hostAddress bytes true (setEpisode (some { e with heldRead := none }) s))

/-- A locked access in NONE (R101). -/
def lockedInNone (t : Translation) (s : State) : Answer × State :=
  if slotIn s.locks.abortNext t.slot then
    (.abort, s.setLocks { s.locks with abortNext := s.locks.abortNext &&& ~~~ slotBit t.slot })
  else (.retry, beginEpisode t s)

/-- A locked access that reaches the Lock Unit: the Staging Unit's closing and freeing first, then the rule of the episode's
state (R101, R102, R104, R105, R108). The arbiter keeps another slot's access away; one would be retried (log 20). -/
def lockedAccess (t : Translation) (x : Transfer) (s : State) : Answer × State :=
  let s1 := freeSlotReads t.slot (closeGathering t.slot s)
  match s1.locks.episode with
  | none => lockedInNone t s1
  | some e =>
    if e.slot ≠ t.slot then (.retry, s1)
    else
      match e.state with
      | .requested => (.retry, s1)
      | .opened =>
        match x with
        | .read n => lockedRead e t n s1
        | .write bytes => lockedWrite e t bytes s1
      | .abandoning => (.abort, s1)

/-! ### Release, withdrawal, expiry -/

/-- A lock release or an unlocked transaction of a slot reaches the Lock Unit (R101, R102, R106, R108). -/
def lockReport (slot : Slot) (s : State) : State :=
  match s.locks.episode with
  | none => s
  | some e =>
    if e.slot ≠ slot then s
    else
      match e.state with
      | .requested =>
        if e.beginQueued then setEpisode (some { e with state := .abandoning, limit := none }) s
        else toNone (dropEpisodeDrain slot s)
      | .opened => if e.endPending then s else postEnd { e with limit := none, heldRead := none } s
      | .abandoning => s

/-- A slot drops its lock flag between transactions (R73, R106). DESIGN CHOICE, log 33, safe: a release named while the slot's
own presentation is unanswered, or between a PARTIAL and its remainder, is reported and acts all the same. -/
def execLockRelease (slot : Slot) (s : State) : Host.Outcome State Fault Refusal := .next (lockReport slot s)

/-- The episode limit expires (R107). -/
def expireEpisode (e : Episode) (s : State) : State :=
  let overrun := takeFault { kind := .exclOverrun, slot := some e.slot } s
  match e.state with
  | .requested =>
    if e.beginQueued then setEpisode (some { e with state := .abandoning, limit := none }) overrun
    else toNone (dropEpisodeDrain e.slot overrun)
  | .opened =>
    let left : Episode :=
      { e with state := .abandoning, limit := none, heldRead := if e.heldRead.any HeldRead.isWaiting then e.heldRead else none }
    if left.heldRead.isSome then setEpisode (some left) overrun else postEnd left overrun
  | .abandoning => s

/-- The episode's LimitDeadline passes (R107). -/
def execEpisodeLimitExpiry (s : State) : Host.Outcome State Fault Refusal :=
  .next
    (match s.locks.episode with
    | some e =>
      match e.limit with
      | some d => expireEpisode e (passTo d s)
      | none => s
    | none => s)

/-- A waiting EXCL_END takes its reserved place (R106, R63, R108). -/
def execExclEndPlaced (s : State) : Host.Outcome State Fault Refusal :=
  .next
    (match s.locks.episode with
    | some e => if e.endPending && postedRoom s then joinEnd e s else s
    | none => s)

/-- The Lock Unit asks again for the EXCL_BEGIN's tag, once the drain has been reported (R102). -/
def execExclBeginAllocation (s : State) : Host.Outcome State Fault Refusal :=
  .next
    (match s.locks.episode with
    | some e => if (s.staging.slotDrains.get e.slot).episode = .idle then episodeDrained e.slot s else s
    | none => s)

/-! ### Results of the Lock Unit's tags -/

/-- The result of an EXCL_BEGIN tag, not a discard (R103, R108). -/
def beginResult (tag : TagRef) (r : FetchResult) (s : State) : State :=
  match s.locks.episode with
  | none => s
  | some e =>
    if e.beginTag ≠ some tag then s
    else
      let e' : Episode := { e with beginTag := none }
      match e.state, r with
      | .requested, .data _ => setEpisode (some { e' with state := .opened }) s
      | .requested, .error _ =>
        let refused := takeFault { kind := .exclRefused, slot := some e.slot } s
        toNone (refused.setLocks { refused.locks with abortNext := refused.locks.abortNext ||| slotBit e.slot })
      | .abandoning, .data _ => postEnd e' s
      | .abandoning, .error _ => toNone s
      | .opened, _ => s

/-- The result of a LOCKED_READ tag reaches the HeldRead of that tag, or is dropped (R60, R108). -/
def heldResult (tag : TagRef) (r : FetchResult) (s : State) : State :=
  match s.locks.episode with
  | none => s
  | some e =>
    match e.heldRead with
    | none => s
    | some h =>
      if h.tag ≠ tag then s
      else
        match e.state with
        | .abandoning =>
          let e' : Episode := { e with heldRead := none }
          if e.endPending || e.beginTag.isSome then setEpisode (some e') s else postEnd e' s
        | _ =>
          let result : HeldResult := match r with | .data bytes => .data bytes | .error _ => .error
          setEpisode (some { e with heldRead := some { h with result := result } }) s

/-! ### Completions (chapter 3) -/

/-- A result is handed to the Purpose of the retired request (R58, R60, R61). -/
def handOver (r : Request) (tag : TagRef) (result : FetchResult) (s : State) : State :=
  match r.purpose with
  | .lineFetch i => lineResult i result s
  | .lockedRead => heldResult tag result s
  | .exclBegin => beginResult tag result s

/-- The fault record of a failed LINE_FETCH or LOCKED_READ; an EXCL_BEGIN makes none (R59, R61). -/
def requestFault (r : Request) (tag : TagRef) (result : FetchResult) (s : State) : State :=
  match result with
  | .data _ => s
  | .error kind =>
    match r.purpose with
    | .exclBegin => s
    | _ =>
      takeFault { kind := kind, slot := some r.slot, hostAddress := some r.hostAddress, tag := some (tagByte tag) } s

/-- A busy tag retires, its result is handed over and a failure is reported, in one step (R51, R55, R56). -/
def finishRequest (i : TagIx) (r : Request) (result : FetchResult) (s : State) : State :=
  let tag : TagRef := ⟨i, (s.tracker.tags.get i).generation⟩
  handOver r tag result (requestFault r tag result (retireTag i s))

/-- The check of a matched MEM_DATA by its status and its number of bytes (R55). -/
def completionResult (r : Request) (status : Byte) (data : List Byte) : FetchResult :=
  if status ≠ 0 then .error .hostError
  else if data.length ≠ r.length then .error .completionMismatch
  else .data data

/-- A MEM_DATA frame is matched against the tag table (R54). -/
def memData (p : List Byte) (s : State) : State :=
  let tag := p.getD 0 0
  let unexpected := takeFault { kind := .unexpectedCompletion, tag := some tag } s
  if h : tagIndex tag < 16 then
    let i : TagIx := ⟨tagIndex tag, h⟩
    match (s.tracker.tags.get i).state with
    | .outstanding r _ =>
      if (s.tracker.tags.get i).generation = tagGeneration tag then
        finishRequest i r (completionResult r (p.getD 1 0) (p.drop 4)) s
      else unexpected
    | _ => unexpected
  else unexpected

/-- An OUTSTANDING tag's Deadline passes (R56). -/
def execReadTimeoutExpiry (tag : TagIx) (s : State) : Host.Outcome State Fault Refusal :=
  .next
    (match (s.tracker.tags.get tag).state with
    | .outstanding r d => finishRequest tag r (.error .readTimeout) (passTo d s)
    | _ => s)

/-! ### The host lock -/

/-- The bridge master drops its lock flag and releases the bus (R98, R99). -/
def dropBus (s : State) : State :=
  if s.bus.owner = .master then s.setBus { s.bus with owner := .none, masterLock := false, deadline := none }
  else s.setBus { s.bus with masterLock := false }

/-- LOCK_OPEN executes (R96). -/
def startLockOpen (s : State) : State :=
  match s.locks.hostLock with
  | .free => setWait .bus (s.setLocks { s.locks with hostLock := .acquiring })
  | .acquiring => setWait .bus s
  | .held _ => complete .ok [] s

/-- LOCK_CLOSE executes (R98). -/
def startLockClose (s : State) : State :=
  match s.locks.hostLock with
  | .held _ => complete .ok [] (dropBus (s.setLocks { s.locks with hostLock := .free }))
  | _ => complete .notHeld [] s

/-- LOCK_OPEN at the head of the ordered sequence (R96). -/
def execLockOpen (s : State) : Host.Outcome State Fault Refusal :=
  .next (runHead (fun c => match c with | .lockOpen => some startLockOpen | _ => none) s)

/-- LOCK_CLOSE at the head of the ordered sequence (R98). -/
def execLockClose (s : State) : Host.Outcome State Fault Refusal :=
  .next (runHead (fun c => match c with | .lockClose => some startLockClose | _ => none) s)

/-- The lock limit expires: FREE, the notice, and the bus released unless a presentation is on it (R99). -/
def expireLock (s : State) : State :=
  let freed := queueReport (.notice .lockExpired) (s.setLocks { s.locks with hostLock := .free })
  if masterPresenting s then freed else dropBus freed

/-- The host lock's LimitDeadline passes (R99). -/
def execLockLimitExpiry (s : State) : Host.Outcome State Fault Refusal :=
  .next
    (match s.locks.hostLock with
    | .held d => expireLock (passTo d s)
    | _ => s)

end Sys2Proof.Machine
end

