-- ==== Sys2Proof/Machine/Events.lean ====
section
/-! DEFINITION. The Event Unit: raising, offering, withdrawing, acknowledging and masking of events, the INT lines, and the
report of a completed slot drain (chapter 7). -/

namespace Sys2Proof.Machine

/-- A slot's event record. -/
def eventAt (slot : Slot) (s : State) : EventRecord := s.events.records.get slot

/-- A slot's event record replaced. -/
def setEvent (slot : Slot) (r : EventRecord) (s : State) : State :=
  s.setEvents { s.events with records := s.events.records.set slot r }

/-- The slot's offered EVENT frame is withdrawn from the transmitter (R133, R135, R136, R181). -/
def withdrawOffer (slot : Slot) (s : State) : State :=
  s.setEvents { s.events with offered := s.events.offered.filter (fun f => f.slot ≠ slot) }

/-- An EVENT frame is made and offered, and the record becomes SENT with Frame OFFERED (R129). -/
def offerEvent (slot : Slot) (s : State) : State :=
  let r := eventAt slot s
  s.setEvents
    { s.events with
      records := s.events.records.set slot { r with state := .sent false }
      offered := s.events.offered ++ [{ slot := slot, seq := r.seq, resend := r.resend }] }

/-- The slot drain of a PENDING event is reported complete: sent when the link is UP, else Drained is yes (R129). -/
def eventDrained (slot : Slot) (s : State) : State :=
  match (eventAt slot s).state with
  | .pending _ => if linkUp s then offerEvent slot s else setEvent slot { eventAt slot s with state := .pending true } s
  | _ => s

/-- An event is raised: PENDING, with the slot drain begun and the slot's read lines freed; a drain complete at its start is
reported in the same step (R128, R43). -/
def raiseEvent (slot : Slot) (s : State) : State :=
  let pending := setEvent slot { eventAt slot s with state := .pending false } s
  let begun := freeSlotReads slot (startSlotDrain .event slot pending)
  if (begun.staging.slotDrains.get slot).event = .idle then eventDrained slot begun else begun

/-- The conditions of a raise (R128). -/
def raises (slot : Slot) (s : State) : Bool :=
  (eventAt slot s).state == .idle && !(eventAt slot s).masked && eligible slot s && s.events.lines.get slot

/-- The Event Unit looks at the slot's line, as if it had just been asserted (R127). -/
def lookAtLine (slot : Slot) (s : State) : State := if raises slot s then raiseEvent slot s else s

/-- An event that leaves the record unacknowledged: EventSeq advances only if the number has been transmitted (R130,
R135). -/
def EventRecord.ended (r : EventRecord) : EventRecord :=
  { r with state := .idle, seq := if r.resend then r.seq + 1 else r.seq, resend := false }

/-- A PENDING event is withdrawn; its drain goes on without requester (R130). -/
def withdrawEvent (slot : Slot) (s : State) : State :=
  match (eventAt slot s).state with
  | .pending _ => dropEventDrain slot (setEvent slot (eventAt slot s).ended s)
  | _ => s

/-- Disable and slot reset return the record to IDLE from whatever state it is in (R135). -/
def endEvent (slot : Slot) (s : State) : State :=
  dropEventDrain slot (withdrawOffer slot (setEvent slot (eventAt slot s).ended s))

/-- An EVENT_ACK matches the record: SENT, the same number, and Resend yes (R132). -/
def ackMatches (slot : Slot) (seq : BitVec 8) (s : State) : Bool :=
  match (eventAt slot s).state with
  | .sent _ => (eventAt slot s).seq == seq && (eventAt slot s).resend
  | _ => false

/-- An EVENT_ACK acknowledges the event, and a line still asserted raises the next one (R133). -/
def acknowledge (slot : Slot) (s : State) : State :=
  let r := eventAt slot s
  lookAtLine slot
    (withdrawOffer slot (setEvent slot { r with state := .idle, seq := r.seq + 1, resend := false } s))

/-- A slot's INT line is asserted (R127, R128, R131). DESIGN CHOICE, log 32, safe: the line is looked at even where the level
is asserted already. -/
def execInterruptAssertion (slot : Slot) (s : State) : Host.Outcome State Fault Refusal :=
  .next (lookAtLine slot (s.setEvents { s.events with lines := s.events.lines.set slot true }))

/-- A slot's INT line is deasserted: a PENDING event of a slot whose line is considered is withdrawn (R127, R130, R131).
DESIGN CHOICE, log 32, safe: the command acts so even where the level is deasserted already, as it can be under an event
that a link loss has made PENDING. -/
def execInterruptDeassertion (slot : Slot) (s : State) : Host.Outcome State Fault Refusal :=
  let lowered := s.setEvents { s.events with lines := s.events.lines.set slot false }
  .next (if eligible slot s then withdrawEvent slot lowered else lowered)

/-- The Event Unit's part of a reported slot drain (R129). -/
def reportEventDrain (slot : Slot) (s : State) : State :=
  let d := s.staging.slotDrains.get slot
  if d.event = .complete then eventDrained slot (setDrains slot { d with event := .idle } s) else s

/-- The Lock Unit's part of a reported slot drain (R102). -/
def reportEpisodeDrain (slot : Slot) (s : State) : State :=
  let d := s.staging.slotDrains.get slot
  if d.episode = .complete then episodeDrained slot (setDrains slot { d with episode := .idle } s) else s

/-- A slot's completed drains are reported to their requesters (R39). -/
def execSlotDrainComplete (slot : Slot) (s : State) : Host.Outcome State Fault Refusal :=
  .next (reportEpisodeDrain slot (reportEventDrain slot s))

/-- A record at a link loss (R136). -/
def EventRecord.atLoss (r : EventRecord) : EventRecord :=
  match r.state with
  | .idle => r
  | .pending _ => { r with state := .pending true }
  | .sent transmitted => { r with state := .pending true, resend := r.resend || transmitted }

/-- The Event Unit at a link loss (R136). -/
def EventUnit.atLoss (u : EventUnit) : EventUnit :=
  { u with records := u.records.map EventRecord.atLoss, offered := [] }

/-- At the entry to UP every PENDING record with Drained yes is sent, in ascending slot order (R137, R181). -/
def offerPending (s : State) : State :=
  allSlots.foldl (fun t slot => if (eventAt slot t).state = .pending true then offerEvent slot t else t) s

/-- An EVENT frame is transmitted: Frame becomes TRANSMITTED and Resend yes (R129). -/
def eventTransmitted (slot : Slot) (s : State) : State :=
  setEvent slot { eventAt slot s with state := .sent true, resend := true } s

end Sys2Proof.Machine
end

