-- ==== Sys2Proof/Machine/Control.lean ====
section
/-! DEFINITION. SLOT_CONTROL and the end of a slot reset (sections 4.6 to 4.8, 7.4, 8.4). -/

namespace Sys2Proof.Machine

/-- A slot's record in the Slot Bus Controller (R85). -/
def slotAt (slot : Slot) (s : State) : SlotRecord := s.bus.slots.get slot

/-- The SLOT_CONTROL command at the head of the ordered sequence executes one action and replies OK (R86). -/
def slotCommand (action : SlotAction) (act : Slot → State → State) (s : State) : State :=
  runHead (fun c => match c with
    | .slotControl slot a => if a = action then some (fun t => complete .ok [] (act slot t)) else none
    | _ => none) s

/-- ENABLE on a disabled slot (R87, R127). -/
def enableSlot (slot : Slot) (s : State) : State :=
  if (slotAt slot s).enabled then s else lookAtLine slot (setSlot slot { slotAt slot s with enabled := true } s)

/-- DISABLE on an enabled slot (R88). -/
def disableSlot (slot : Slot) (s : State) : State :=
  if (slotAt slot s).enabled then
    endEvent slot
      (quiesceSlot slot
        (endOwnership slot (holdInReset slot { slotAt slot s with enabled := false, resetDeadline := none } s)))
  else s

/-- UNFENCE (R89). -/
def unfence (slot : Slot) (s : State) : State := setSlot slot { slotAt slot s with fenced := false } s

/-- RESET on an enabled slot, begun or restarted (R91). -/
def beginSlotReset (slot : Slot) (s : State) : State :=
  endEvent slot
    (quiesceSlot slot
      (endOwnership slot
        (holdInReset slot { slotAt slot s with resetDeadline := some (s.now + Config.slotResetTime) } s)))

/-- MASK: Masked becomes yes, and a PENDING event is withdrawn (R134). -/
def maskSlot (slot : Slot) (s : State) : State :=
  withdrawEvent slot (setEvent slot { eventAt slot s with masked := true } s)

/-- UNMASK: Masked becomes no, and the line is looked at (R134). -/
def unmaskSlot (slot : Slot) (s : State) : State :=
  lookAtLine slot (setEvent slot { eventAt slot s with masked := false } s)

/-- CLEAR_FAULTS: both abort counts 0 and the summary empty (R80, R147). -/
def clearFaults (slot : Slot) (s : State) : State :=
  let counted := setSlot slot { slotAt slot s with fencedAborts := 0, downAborts := 0 } s
  counted.setFaults { s.faults with summaries := s.faults.summaries.set slot 0 }

/-- AUTOFENCE_ON and AUTOFENCE_OFF (R90). -/
def setAutofence (on : Bool) (slot : Slot) (s : State) : State := setSlot slot { slotAt slot s with autofence := on } s

/-- SLOT_CONTROL ENABLE at the head of the ordered sequence (R87). -/
def execSlotControlEnable (s : State) : Host.Outcome State Fault Refusal := .next (slotCommand .enable enableSlot s)

/-- SLOT_CONTROL DISABLE at the head of the ordered sequence (R88). -/
def execSlotControlDisable (s : State) : Host.Outcome State Fault Refusal := .next (slotCommand .disable disableSlot s)

/-- SLOT_CONTROL FENCE at the head of the ordered sequence (R89). -/
def execSlotControlFence (s : State) : Host.Outcome State Fault Refusal := .next (slotCommand .fence fence s)

/-- SLOT_CONTROL UNFENCE at the head of the ordered sequence (R89). -/
def execSlotControlUnfence (s : State) : Host.Outcome State Fault Refusal := .next (slotCommand .unfence unfence s)

/-- SLOT_CONTROL RESET at the head of the ordered sequence; a disabled slot is answered SLOT_DISABLED (R91). -/
def execSlotControlReset (s : State) : Host.Outcome State Fault Refusal :=
  .next (runHead (fun c => match c with
    | .slotControl slot .reset =>
      some (fun t =>
        if (slotAt slot t).enabled then complete .ok [] (beginSlotReset slot t) else complete .slotDisabled [] t)
    | _ => none) s)

/-- SLOT_CONTROL MASK at the head of the ordered sequence (R134). -/
def execSlotControlMask (s : State) : Host.Outcome State Fault Refusal := .next (slotCommand .mask maskSlot s)

/-- SLOT_CONTROL UNMASK at the head of the ordered sequence (R134). -/
def execSlotControlUnmask (s : State) : Host.Outcome State Fault Refusal := .next (slotCommand .unmask unmaskSlot s)

/-- SLOT_CONTROL CLEAR_FAULTS at the head of the ordered sequence (R147, R80). -/
def execSlotControlClearFaults (s : State) : Host.Outcome State Fault Refusal :=
  .next (slotCommand .clearFaults clearFaults s)

/-- SLOT_CONTROL AUTOFENCE_ON at the head of the ordered sequence (R90). -/
def execSlotControlAutofenceOn (s : State) : Host.Outcome State Fault Refusal :=
  .next (slotCommand .autofenceOn (setAutofence true) s)

/-- SLOT_CONTROL AUTOFENCE_OFF at the head of the ordered sequence (R90). -/
def execSlotControlAutofenceOff (s : State) : Host.Outcome State Fault Refusal :=
  .next (slotCommand .autofenceOff (setAutofence false) s)

/-- A slot reset ends: InReset becomes no, the notice is queued if the link is UP, and the line is looked at (R92, R127). -/
def endSlotReset (slot : Slot) (s : State) : State :=
  let released := setSlot slot { slotAt slot s with resetDeadline := none } s
  lookAtLine slot (if linkUp s then queueReport (.notice (.slotResetDone slot)) released else released)

/-- A slot's ResetDeadline passes (R92). -/
def execSlotResetEnd (slot : Slot) (s : State) : Host.Outcome State Fault Refusal :=
  .next
    (match (slotAt slot s).resetDeadline with
    | some d => endSlotReset slot (passTo d s)
    | none => s)

end Sys2Proof.Machine
end

