-- ==== Sys2Proof/Machine/Downstream.lean ====
section
/-! DEFINITION. Downstream access: CARD_READ and CARD_WRITE, the answers to the bridge master's presentations, and their
ends (chapter 6). -/

namespace Sys2Proof.Machine

/-- The downstream access record replaced. -/
def setAccess (a : Option Downstream) (s : State) : State := s.setMaster { s.master with access := a }

/-- A presentation of the bridge master goes onto the bus; a card that is out of reset now has 2 µs to claim it (R117, R75,
R123). -/
def presentAccess (a : Downstream) (s : State) : State :=
  (setAccess (some { a with phase := .presenting }) s).setBus
    { s.bus with deadline := some (s.now + Config.busTime), claimants := claimants a.space a.slot s }

/-- The conditions under which an access is refused at the start of execution (R114). -/
def accessRefusal (f : AccessFields) (s : State) : Option ResultCode :=
  if accessInWindow s.pageMap f then some .badArgument
  else
    match f.space, f.slot with
    | .identity, some slot => if (slotAt slot s).enabled then none else some .slotDisabled
    | _, _ => none

/-- The record of a new access (R115). -/
def newAccess (tag : BitVec 16) (write : Bool) (f : AccessFields) (data : List Byte) (s : State) : Downstream where
  tag := tag
  write := write
  space := f.space
  slot := f.slot
  address := f.address
  length := f.length
  data := data
  bytesDone := 0
  retryCount := 0
  retryLimit := s.master.retryLimit
  phase := .requesting

/-- CARD_READ or CARD_WRITE executes: refused, requesting the bus, or presenting at once under a HELD host lock (R114, R115,
R116, R97). -/
def startAccess (write : Bool) (f : AccessFields) (data : List Byte) (s : State) : State :=
  match accessRefusal f s with
  | some code => complete code [] s
  | none =>
    let tag := match s.command.executing with | some e => e.tag | none => 0
    let a := newAccess tag write f data s
    let waiting := setWait .bus s
    if lockHeld s then presentAccess a waiting else setAccess (some a) waiting

/-- CARD_READ at the head of the ordered sequence (R114). -/
def execCardRead (s : State) : Host.Outcome State Fault Refusal :=
  .next (runHead (fun c => match c with | .cardRead f => some (startAccess false f []) | _ => none) s)

/-- CARD_WRITE at the head of the ordered sequence (R114). -/
def execCardWrite (s : State) : Host.Outcome State Fault Refusal :=
  .next (runHead (fun c => match c with | .cardWrite f data => some (startAccess true f data) | _ => none) s)

/-- The bridge master's ownership ends, unless the host lock is HELD (R83, R120, R121). -/
def releaseMaster (s : State) : State :=
  if lockHeld s then s.setBus { s.bus with deadline := none } else dropBus s

/-- The access is one whose command a link loss has discarded: no command is executing (R124, R166). -/
def orphaned (s : State) : Bool := s.command.executing.isNone

/-- BytesDone and three reserved bytes, the body of a downstream reply (section 11.5). -/
def doneBody (n : Nat) : List Byte := [BitVec.ofNat 8 n, 0, 0, 0]

/-- An access ends in failure: a CARD_WRITE that has written bytes frees every read line (R120, R124). -/
def failAccess (a : Downstream) (code : ResultCode) (s : State) : State :=
  let released := releaseMaster (setAccess none s)
  if orphaned s then released
  else
    complete code (doneBody a.bytesDone)
      (if a.write && decide (0 < a.bytesDone) then freeAllReads released else released)

/-- A CARD_WRITE ends done (R121, R124). -/
def finishWrite (a : Downstream) (s : State) : State :=
  let released := releaseMaster (setAccess none s)
  if orphaned s then released else complete .ok (doneBody a.length) (freeAllReads released)

/-- A CARD_READ ends its bus work and its global drain begins; complete at its start, the reply is queued at once (R122,
R124). -/
def finishRead (a : Downstream) (data : List Byte) (s : State) : State :=
  if orphaned s then releaseMaster (setAccess none s)
  else
    let done : Downstream := { a with data := data, bytesDone := a.length, phase := .draining }
    let drained := startGlobalDrain (releaseMaster s)
    match drained.staging.globalDrain with
    | none => complete .ok (doneBody a.length ++ data) (setAccess none drained)
    | some _ => setWait .drain (setAccess (some done) drained)

/-- A RETRY is counted, and ends the access at the limit; otherwise the master presents again (R119, R124). -/
def retryAccess (a : Downstream) (s : State) : State :=
  let counted : Downstream := { a with retryCount := a.retryCount + 1 }
  if orphaned s then releaseMaster (setAccess none s)
  else if counted.retryCount = counted.retryLimit then failAccess counted .retryLimit s
  else if lockHeld s then presentAccess counted s
  else releaseMaster (setAccess (some { counted with phase := .requesting }) s)

/-- A PARTIAL answer: the remainder is presented at once (R118). -/
def continueAccess (a : Downstream) (n : Nat) (data : List Byte) (s : State) : State :=
  presentAccess { a with bytesDone := a.bytesDone + n, data := if a.write then a.data else a.data ++ data } s

/-- A card target can give this answer to the bridge master's presentation: some card may claim it, a PARTIAL does less than
is presented, and a read brings as many bytes as it does (R74, R75, R117, R123, R125). -/
def answerFits (a : Downstream) (r : Response) (data : List Byte) (s : State) : Bool :=
  let left := a.length - a.bytesDone
  mayBeClaimed s &&
    match r with
    | .complete => a.write || data.length == left
    | .partly n => decide (1 ≤ n) && decide (n < left) && (a.write || data.length == n)
    | .retry => true
    | .abort => true

/-- The bridge master acts on an answer (R117). -/
def followAnswer (a : Downstream) (r : Response) (data : List Byte) (s : State) : State :=
  match r with
  | .complete => if a.write then finishWrite a s else finishRead a (a.data ++ data) s
  | .partly n => continueAccess a n data s
  | .retry => retryAccess a s
  | .abort => failAccess a .targetAbort s

/-- The card target answers the bridge master's presentation (R117). -/
def execPresentationAnswer (r : Response) (data : List Byte) (s : State) : Host.Outcome State Fault Refusal :=
  .next
    (match s.master.access with
    | some a => if a.phase = .presenting ∧ answerFits a r data s = true then followAnswer a r data s else s
    | none => s)

/-- No target claims the bridge master's presentation within 2 µs (R117, R75). -/
def execNoClaim (s : State) : Host.Outcome State Fault Refusal :=
  .next
    (match s.master.access, s.bus.deadline with
    | some a, some d => if a.phase = .presenting then failAccess a .noTarget (passTo d s) else s
    | _, _ => s)

end Sys2Proof.Machine
end

