-- ==== Sys2Proof/Machine/Reads.lean ====
section
/-! DEFINITION. Unlocked window accesses in the Staging Unit: buffered and direct reads and writes, misses and read-ahead
(section 2.3). -/

namespace Sys2Proof.Machine

/-! ### Reads -/

/-- A miss: the slot-drain gate, then a line and a tag as one step (R28, R25). The card is answered RETRY in every case. -/
def readMiss (t : Translation) (f : FetchSpan) (readStart : Option Nat) (s : State) : State :=
  if untransmitted t.slot s then startSlotDrain .miss t.slot s
  else
    match lowestFreeTag s with
    | none => s
    | some _ =>
      match makeQuota t.slot s with
      | none => s
      | some room =>
        match takeLine room with
        | none => s
        | some (i, taken) => bindFetch i t.binding f readStart taken

/-- The fetch span of a buffered read (R28). -/
def bufferedSpan (o : Nat) : FetchSpan where
  direct := false
  start := o / 4 * 4
  stop := 64

/-- The fetch span of a read-ahead (R30). -/
def wholeSpan : FetchSpan where
  direct := false
  start := 0
  stop := 64

/-- The conditions of read-ahead, less those on a FREE line and a FREE tag (R30). -/
def readAheadAllowed (b : Binding) (consume : Nat) (s : State) : Bool :=
  s.staging.readAhead && decide (32 ≤ consume) && decide (b.hostLine.toNat % 16384 ≠ 16384 - 64) &&
    decide (readLineCount b.slot s < 2) && !untransmitted b.slot s &&
    !(s.staging.lines.items.any (fun l => l.isRead && !l.isStale && l.ofSlotLine b.slot (b.hostLine + 64)))

/-- Read-ahead: the lowest FREE line is bound FETCHING to the next host line under the lowest FREE tag (R30). -/
def readAhead (b : Binding) (consume : Nat) (s : State) : State :=
  if readAheadAllowed b consume s then
    match findLine Line.isFree s, lowestFreeTag s with
    | some i, some _ => bindFetch i { b with hostLine := b.hostLine + 64 } wholeSpan none s
    | _, _ => s
  else s

/-- Whether a line is a VALID line of the slot for the host line, of the given Direct kind, and current (R27, R31, R9). -/
def validFor (direct : Bool) (slot : Slot) (h : HostAddr) (s : State) (l : Line) : Bool :=
  match l with
  | .valid b f _ _ => f.direct == direct && b.slot == slot && b.hostLine == h && current b s
  | _ => false

/-- Whether a line is a non-stale FETCHING line with Direct = no of the slot for the host line (R27 row 3). -/
def fetchingBuffered (slot : Slot) (h : HostAddr) (l : Line) : Bool :=
  match l with
  | .fetching b f _ stale _ => !stale && !f.direct && b.slot == slot && b.hostLine == h
  | _ => false

/-- Whether a line is an ERROR line with Direct = no of the slot for the host line (R27 row 4). -/
def errorBuffered (slot : Slot) (h : HostAddr) (l : Line) : Bool :=
  match l with
  | .error b f _ => !f.direct && b.slot == slot && b.hostLine == h
  | _ => false

/-- Whether a line is a read line with Direct = yes of the slot for the host line (R27 row 5). -/
def directFor (slot : Slot) (h : HostAddr) (l : Line) : Bool :=
  match l with
  | .fetching b f _ _ _ => f.direct && b.slot == slot && b.hostLine == h
  | .valid b f _ _ => f.direct && b.slot == slot && b.hostLine == h
  | .error b f _ => f.direct && b.slot == slot && b.hostLine == h
  | _ => false

/-- Row 5 of R27: direct lines of the slot for the host line are given up, and the miss proceeds. -/
def bufferedMiss (t : Translation) (s : State) : State :=
  readMiss t (bufferedSpan t.offset) none (freeReads (directFor t.slot t.hostLine) s)

/-- A buffered read served from a VALID line: consumption, then read-ahead (R29, R30). -/
def consumeLine (i : LineIx) (b : Binding) (f : FetchSpan) (fetched : List Byte) (next : Nat) (s : State) : State :=
  readAhead b next (if next = 64 then setLine i .free s else setLine i (.valid b f fetched next) s)

/-- A buffered read (R27). -/
def bufferedRead (t : Translation) (n : Nat) (s : State) : Answer × State :=
  match findLine (validFor false t.slot t.hostLine s) s with
  | some i =>
    match lineAt i s with
    | .valid b f fetched consume =>
      if consume ≤ t.offset then
        (.complete ((fetched.drop (t.offset - f.start)).take n), consumeLine i b f fetched (t.offset + n) s)
      else (.retry, bufferedMiss t (setLine i .free s))
    | _ => (.retry, s)
  | none =>
    if (findLine (fetchingBuffered t.slot t.hostLine) s).isSome then (.retry, s)
    else
      match findLine (errorBuffered t.slot t.hostLine) s with
      | some i => (.abort, setLine i .free s)
      | none => (.retry, bufferedMiss t s)

/-- Row 1 of R31: a current VALID direct line for exactly this start that reaches the read's end. -/
def directHit (t : Translation) (n : Nat) (s : State) (l : Line) : Bool :=
  match l with
  | .valid _ f _ consume =>
    validFor true t.slot t.hostLine s l && consume == t.offset && decide (t.offset + n ≤ f.stop)
  | _ => false

/-- Row 2 of R31: a non-stale FETCHING direct line for exactly this read. -/
def directFetching (t : Translation) (n : Nat) (l : Line) : Bool :=
  match l with
  | .fetching b f readStart stale _ =>
    !stale && b.slot == t.slot && b.hostLine == t.hostLine && f == directSpan t.offset n && readStart == some t.offset
  | _ => false

/-- Row 3 of R31: an ERROR line of the slot for the host line. -/
def errorFor (slot : Slot) (h : HostAddr) (l : Line) : Bool :=
  match l with
  | .error b _ _ => b.slot == slot && b.hostLine == h
  | _ => false

/-- A direct read (R31). -/
def directRead (t : Translation) (n : Nat) (s : State) : Answer × State :=
  match findLine (directHit t n s) s with
  | some i =>
    match lineAt i s with
    | .valid _ f fetched _ => (.complete ((fetched.drop (t.offset - f.start)).take n), setLine i .free s)
    | _ => (.retry, s)
  | none =>
    if (findLine (directFetching t n) s).isSome then (.retry, s)
    else
      match findLine (errorFor t.slot t.hostLine) s with
      | some i => (.abort, setLine i .free s)
      | none =>
        (.retry,
          readMiss t (directSpan t.offset n) (some t.offset) (freeReads (Line.ofSlotLine t.slot t.hostLine) s))

/-! ### Writes -/

/-- Whether a line is the slot's GATHERING line for the host line, and current (R33 step 3, R9). -/
def gatheringFor (slot : Slot) (h : HostAddr) (s : State) (l : Line) : Bool :=
  match l with
  | .gathering b _ _ _ => b.slot == slot && b.hostLine == h && current b s
  | _ => false

/-- Whether a line is a CLOSED line of the slot for the host line (R33 step 4). -/
def closedFor (slot : Slot) (h : HostAddr) (l : Line) : Bool :=
  match l with
  | .closed b _ _ => b.slot == slot && b.hostLine == h
  | _ => false

/-- Step 4 of R33: the old GATHERING line is closed and a new one bound, where a line can be had. -/
def gatherAnew (t : Translation) (bytes : List Byte) (s : State) : Answer × State :=
  let closed := closeGathering t.slot s
  if (findLine (closedFor t.slot t.hostLine) closed).isSome then (.retry, closed)
  else
    match takeLine closed with
    | none => (.retry, closed)
    | some (i, taken) => (.complete [], mergeInto i t.offset bytes (bindGathering i t.binding taken))

/-- A buffered write (R33). -/
def bufferedWrite (t : Translation) (bytes : List Byte) (s : State) : Answer × State :=
  if s.tracker.writeHold then (.retry, s)
  else
    let freed := freeReads (Line.ofSlotLine t.slot t.hostLine) s
    match findLine (gatheringFor t.slot t.hostLine freed) freed with
    | some i => (.complete [], mergeInto i t.offset bytes freed)
    | none => gatherAnew t bytes freed

/-- A direct write (R34). -/
def directWrite (t : Translation) (bytes : List Byte) (s : State) : Answer × State :=
  let closed := closeGathering t.slot s
  if closed.tracker.writeHold then (.retry, closed)
  else
    let freed := freeReads (Line.ofSlotLine t.slot t.hostLine) closed
    if freed.staging.closedOrder = [] ∧ unreservedRoom freed = true then
      (.complete [], postWrite t.slot t.hostAddress bytes false freed)
    else (.retry, freed)

/-- The access is served as direct: Mode DIRECT, or buffering disabled (R8, R26, R46). -/
def servedDirect (t : Translation) (s : State) : Bool := t.mode == .direct || !s.staging.buffering

/-- An unlocked access handed to the Staging Unit; a read first closes the slot's GATHERING line (R26, R33, R34). -/
def unlockedAccess (t : Translation) (x : Transfer) (s : State) : Answer × State :=
  match x with
  | .read n =>
    if servedDirect t s then directRead t n (closeGathering t.slot s) else bufferedRead t n (closeGathering t.slot s)
  | .write bytes => if servedDirect t s then directWrite t bytes s else bufferedWrite t bytes s

end Sys2Proof.Machine
end

