-- ==== Sys2Proof/WellFormed.lean ====
section
/-! DEFINITION. Which terms of `Instr` are commands the hardware can meet: the ranges of lengths that the spec gives the
frames (R184) and the transactions (R73, R75). Every other operand is well-formed by its type. -/

namespace Sys2Proof

/-- A transaction moves 1 to 64 bytes (R73). -/
def Transfer.wellFormed (t : Transfer) : Bool := 1 ≤ t.length && t.length ≤ 64

/-- PARTIAL(n) does at least one byte and fewer than the longest transaction's 64 (R75). -/
def Response.wellFormed : Response → Bool
  | .partly n => 1 ≤ n && n ≤ 63
  | .complete => true
  | .retry => true
  | .abort => true

/-- The check of a command's operands. -/
def Instr.wellFormed : Instr → Bool
  | .initReceived p => p.length == 12
  | .ackReceived p => p.length == 4
  | .nakReceived p => p.length == 4
  | .creditReceived p => p.length == 4
  | .linkResetReceived p => p.length == 0
  | .commandReceived _ _ p => p.length ≤ 136
  | .memDataReceived _ _ p => 4 ≤ p.length && p.length ≤ 68
  | .slotPresentation _ _ t _ => t.wellFormed
  | .presentationAnswer r data => r.wellFormed && data.length ≤ 64
  | .slotTransactionAnswer r => r.wellFormed
  | .powerOnReset => true
  | .badFrameReceived _ => true
  | .lossOfSignal => true
  | .initIntervalExpiry => true
  | .trainingDeadlineExpiry => true
  | .ackDeadlineExpiry => true
  | .replayDeadlineExpiry => true
  | .transmitterFree => true
  | .heldEntryTaken => true
  | .mapWrite => true
  | .mapRead => true
  | .mapInvalidate => true
  | .windowSet => true
  | .bufferControlFlush => true
  | .bufferControlEnable => true
  | .bufferControlDisable => true
  | .setLimits => true
  | .slotControlEnable => true
  | .slotControlDisable => true
  | .slotControlFence => true
  | .slotControlUnfence => true
  | .slotControlReset => true
  | .slotControlMask => true
  | .slotControlUnmask => true
  | .slotControlClearFaults => true
  | .slotControlAutofenceOn => true
  | .slotControlAutofenceOff => true
  | .cardRead => true
  | .cardWrite => true
  | .lockOpen => true
  | .lockClose => true
  | .bridgeReset => true
  | .lockRelease _ => true
  | .busGrant _ => true
  | .grantIdleTimeout => true
  | .requestDropped _ => true
  | .noClaim => true
  | .interruptAssertion _ => true
  | .interruptDeassertion _ => true
  | .slotResetEnd _ => true
  | .gatherIdleExpiry _ => true
  | .readTimeoutExpiry _ => true
  | .episodeLimitExpiry => true
  | .lockLimitExpiry => true
  | .reinitialisationComplete => true
  | .slotDrainComplete _ => true
  | .globalDrainComplete => true
  | .mapBarrierComplete => true
  | .closedLineMove => true
  | .exclEndPlaced => true
  | .exclBeginAllocation => true
  | .slotTransactionNoClaim => true

end Sys2Proof
end

