-- ==== Sys2Proof/Machine/SlotBus.lean ====
section
/-! DEFINITION. The slot bus: window gates, presentations by slots, grants and the ends of ownership (sections 4.1 to
4.4). -/

namespace Sys2Proof.Machine

/-! ### Presentations -/

/-- The bytes of a presentation that lie in the aligned 64-byte block of its first byte (R77). -/
def blockLength (a : CardAddr) (x : Transfer) : Nat := min x.length (64 - a.toNat % 64)

/-- A transfer cut to its first k bytes (R77). -/
def cutTransfer (k : Nat) : Transfer → Transfer
  | .read _ => .read k
  | .write bytes => .write (bytes.take k)

/-- A transfer's direction is write. -/
def writes : Transfer → Bool
  | .read _ => false
  | .write _ => true

/-- A translated presentation is answered by the Lock Unit or the Staging Unit (R8, R78). -/
def serve (t : Translation) (x : Transfer) (lock : Bool) (s : State) : Answer × State :=
  if lock then lockedAccess t x s else unlockedAccess t x s

/-- Translation decides: a refusal is answered ABORT with its fault record (R6). -/
def translateAndServe (slot : Slot) (a : CardAddr) (x : Transfer) (lock : Bool) (s : State) : Answer × State :=
  match translate s.pageMap slot a (writes x) lock with
  | .refused kind => (.abort, takeFault { kind := kind, slot := some slot, cardAddress := some a } s)
  | .passed t => serve t x lock s

/-- The window gates, in their order (R79, R80). -/
def windowAccess (slot : Slot) (a : CardAddr) (x : Transfer) (lock : Bool) (s : State) : Answer × State :=
  let r := slotAt slot s
  if !r.enabled || r.inReset || r.fenced then
    (.abort, setSlot slot { r with fencedAborts := satInc r.fencedAborts } s)
  else if !linkUp s then (.abort, setSlot slot { r with downAborts := satInc r.downAborts } s)
  else translateAndServe slot a x lock s

/-- The bridge drives an answer as target (R75, R77). -/
def drive (r : Response) (data : List Byte) (s : State) : State :=
  s.setBus { s.bus with answer := some { response := r, data := data } }

/-- The slot keeps the bus for the remainder (R75, R83). -/
def continueSlot (s : State) : State := s.setBus { s.bus with phase := .continuing, deadline := none }

/-- The response to the card, and what becomes of its ownership: k bytes of `length` were handed on (R77, R83). -/
def respond (slot : Slot) (length k : Nat) (answer : Answer) (s : State) : State :=
  match answer with
  | .complete data =>
    if k < length then continueSlot (drive (.partly k) data s) else endOwnership slot (drive .complete data s)
  | .retry => endOwnership slot (drive .retry [] s)
  | .abort => endOwnership slot (drive .abort [] s)

/-- A claimed presentation (R77, R78). -/
def claimedPresentation (slot : Slot) (a : CardAddr) (x : Transfer) (lock : Bool) (s : State) : State :=
  let k := blockLength a x
  let out := windowAccess slot a (cutTransfer k x) lock s
  respond slot x.length k out.1 out.2

/-- A presentation that the bridge does not claim waits for a card target, or for 2 µs; no slot can drive a select line
(R75, R76, R74). -/
def awaitTarget (address : BusAddress) (x : Transfer) (s : State) : State :=
  s.setBus
    { s.bus with
      phase := .awaiting address x.length
      deadline := some (s.now + Config.busTime)
      claimants := claimants address.space none s }

/-- The bridge claims a slot's MEMORY transaction whose first byte lies in the window (R76). -/
def claims (address : BusAddress) (s : State) : Option CardAddr :=
  match address with
  | .memory a => if inWindow s.pageMap a then some a else none
  | .io _ => none
  | .identity _ => none

/-- The slot owns the bus and has no presentation waiting for its answer (R73). -/
def mayPresent (slot : Slot) (s : State) : Bool :=
  s.bus.owner == .slot slot && (match s.bus.phase with | .awaiting .. => false | _ => true)

/-- The owning slot presents a transaction: the report of an unlocked one to the Lock Unit first, then the claim (R73, R78;
log 26). -/
def execSlotPresentation (slot : Slot) (address : BusAddress) (x : Transfer) (lock : Bool) (s : State) :
    Host.Outcome State Fault Refusal :=
  .next
    (if mayPresent slot s && x.wellFormed then
      let reported := if lock then s else lockReport slot s
      match claims address reported with
      | some a => claimedPresentation slot a x lock reported
      | none => awaitTarget address x reported
    else s)

/-- The owner of the bus whose presentation waits for a card target. -/
def awaitingSlot (s : State) : Option (Slot × BusAddress × Nat) :=
  match s.bus.owner, s.bus.phase with
  | .slot slot, .awaiting address length => some (slot, address, length)
  | _, _ => none

/-- The end of the owning slot's transaction, or its continuation, by a card target's response (R75, R83). -/
def targetAnswer (slot : Slot) (length : Nat) (r : Response) (s : State) : State :=
  match r with
  | .partly n => if 1 ≤ n ∧ n < length then continueSlot s else s
  | .complete => endOwnership slot s
  | .retry => endOwnership slot s
  | .abort => endOwnership slot s

/-- A card target that may claim the owning slot's transaction answers it (R75, R83, R74). -/
def execSlotTransactionAnswer (r : Response) (s : State) : Host.Outcome State Fault Refusal :=
  .next
    (match awaitingSlot s with
    | some (slot, _, length) => if mayBeClaimed s then targetAnswer slot length r s else s
    | none => s)

/-- No target claims the owning slot's transaction within 2 µs (R75, R83). -/
def execSlotTransactionNoClaim (s : State) : Host.Outcome State Fault Refusal :=
  .next
    (match awaitingSlot s, s.bus.deadline with
    | some (slot, _, _), some d => endOwnership slot (passTo d s)
    | _, _ => s)

/-! ### Grants -/

/-- The slots in the order that begins after the rotation pointer (R81). -/
def rotation (pointer : Slot) : List Slot := [pointer + 1, pointer + 2, pointer + 3, pointer + 4, pointer + 5, pointer]

/-- A slot is granted: it becomes the owner, the pointer moves to it, and it has 2 µs to present (R82, R83). -/
def grantSlot (slot : Slot) (s : State) : State :=
  s.setBus
    { s.bus with owner := .slot slot, phase := .granted, pointer := slot, deadline := some (s.now + Config.busTime) }

/-- The bridge master becomes the owner (R81, R83). -/
def ownBus (lock : Bool) (s : State) : State :=
  s.setBus { s.bus with owner := .master, masterLock := lock, deadline := none }

/-- A grant with lock makes the host lock HELD and queues the LOCK_OPEN reply (R96). -/
def grantLock (s : State) : State :=
  let granted := ownBus true s
  complete .ok []
    (granted.setLocks { s.locks with hostLock := .held (s.now + Config.ms s.locks.lockLimit) })

/-- A grant to the bridge master for its downstream access (R116). -/
def grantAccess (s : State) : State :=
  match s.master.access with
  | some a => presentAccess a (ownBus (lockHeld s) s)
  | none => s

/-- The slot requests and is eligible (R81). -/
def requestsBus (requests : BitVec 6) (s : State) (slot : Slot) : Bool := slotIn requests slot && eligible slot s

/-- The host lock is ACQUIRING (R95). -/
def lockAcquiring (s : State) : Bool := s.locks.hostLock == .acquiring

/-- A grant under row 3 of R81. -/
def grantFree (requests : BitVec 6) (s : State) : State :=
  if lockAcquiring s then grantLock s
  else if accessRequests s then grantAccess s
  else
    match (rotation s.bus.pointer).find? (requestsBus requests s) with
    | some slot => grantSlot slot s
    | none => s

/-- The rows of R81 in their order. -/
def grant (requests : BitVec 6) (s : State) : State :=
  if lockHeld s then (if accessRequests s then grantAccess s else s)
  else
    match s.locks.episode with
    | some e => if requestsBus requests s e.slot then grantSlot e.slot s else s
    | none => grantFree requests s

/-- The arbiter makes a grant when the bus has no owner (R81). -/
def execBusGrant (requests : BitVec 6) (s : State) : Host.Outcome State Fault Refusal :=
  .next (if s.bus.owner = .none then grant requests s else s)

/-- The slot that was granted the bus and has presented nothing. -/
def idleGrant (s : State) : Option Slot :=
  match s.bus.owner, s.bus.phase with
  | .slot slot, .granted => some slot
  | _, _ => none

/-- The granted slot has presented nothing within 2 µs (R83). -/
def execGrantIdleTimeout (s : State) : Host.Outcome State Fault Refusal :=
  .next
    (match idleGrant s, s.bus.deadline with
    | some slot, some d => endOwnership slot (passTo d s)
    | _, _ => s)

/-- The granted slot drops its request without presenting (R83). -/
def execRequestDropped (slot : Slot) (s : State) : Host.Outcome State Fault Refusal :=
  .next (if idleGrant s = some slot then endOwnership slot s else s)

/-! ### Moves of closed lines -/

/-- The head of the closed-order list moves, while the posted-write queue has unreserved room (R37, R63). -/
def execClosedLineMove (s : State) : Host.Outcome State Fault Refusal :=
  .next (if unreservedRoom s then moveClosed s else s)

/-- A GATHERING line's IdleDeadline passes (R35). -/
def execGatherIdleExpiry (line : LineIx) (s : State) : Host.Outcome State Fault Refusal :=
  .next
    (match lineAt line s with
    | .gathering _ _ _ d => closeLine (passTo d s) line
    | _ => s)

end Sys2Proof.Machine
end

