-- ==== Sys2Proof/Machine/LinkLoss.lean ====
section
/-! DEFINITION. The link states DOWN, TRAINING and UP, and the link loss with what each block does at it (sections 10.1 to
10.3; R47, R70, R94, R110, R124, R136, R148, R166). -/

namespace Sys2Proof.Machine

/-! ### The blocks at a link loss -/

/-- A line at a link loss: a non-stale fetch fails and stays ERROR, every other line becomes FREE (R47, R32). -/
def Line.atLoss : Line → Line
  | .fetching b f _ false tag => .error b f tag
  | _ => .free

/-- The lines whose fetch a link loss fails (R47). -/
def failingLines (s : State) : List LineIx :=
  allLines.filter (fun i => match lineAt i s with | .fetching _ _ _ stale _ => !stale | _ => false)

/-- The Staging Unit at a link loss; the order in which the failed lines enter the LRU order is free (R47, R42; log 7). -/
def lossStaging (s : State) : State :=
  let failing := failingLines s
  (s.setStaging
    { s.staging with
      lines := s.staging.lines.map Line.atLoss
      closedOrder := []
      lru := freeOrder s.freeIndex failing
      slotDrains := Table.fill 6 SlotDrains.none
      globalDrain := none
      mapBarrier := none }).setFreeIndex (s.freeIndex + failing.length)

/-- The Upstream Tracker at a link loss (R70). -/
def lossTracker (s : State) : State := s.setTracker (discardTracker s.tracker)

/-- The Lock Unit at a link loss: FREE and NONE, the episode's slot in AbortNext (R110). -/
def lossLocks (s : State) : State :=
  s.setLocks
    { s.locks with
      hostLock := .free
      episode := none
      abortNext :=
        match s.locks.episode with
        | some e => s.locks.abortNext ||| slotBit e.slot
        | none => s.locks.abortNext }

/-- The bridge master at a link loss: a presentation on the bus finishes, else the record is removed and the bus released
(R94, R110, R124). -/
def lossMaster (s : State) : State := if masterPresenting s then s else dropBus (setAccess none s)

/-- The Event Unit at a link loss (R136). -/
def lossEvents (s : State) : State := s.setEvents s.events.atLoss

/-- The commands that a link loss discards (R166). -/
def commandsHeld (s : State) : Nat := s.command.queue.length + (if s.command.executing.isSome then 1 else 0)

/-- The Command Unit at a link loss: queue, executing command and reply queue discarded (R166, R171). -/
def lossCommand (s : State) : State := s.setCommand { s.command with queue := [], executing := none, replies := [] }

/-- The Uplink Port at a link loss (R171, R167), entering DOWN or TRAINING (R168, R169). -/
def lossUplink (training sendReset : Bool) (s : State) : State :=
  s.setUplink
    { s.uplink with
      linkState := if training then .training else .down
      trainingDeadline := if training then some (s.now + Config.trainingTime) else none
      initDeadline := some (s.now + Config.initInterval)
      nakSent := false
      unacknowledged := 0
      ackDeadline := none
      replay := []
      replayNext := none
      replayDeadline := none
      replayCount := 0
      requestCredits := 0
      postedCredits := 0
      pendingCredits := 0
      linkLosses := satInc s.uplink.linkLosses
      resetDue := sendReset
      initDue := true
      nakDue := false
      ackDue := false }

/-- A link loss: every block takes its link-loss values in one step, and the DISCARD record is taken (R171, R148). -/
def linkLoss (training sendReset : Bool) (s : State) : State :=
  takeFault (discardReport .linkLoss (writesHeld s) (busyTags s) (commandsHeld s))
    (lossUplink training sendReset
      (lossCommand (lossEvents (lossLocks (lossMaster (lossTracker (lossStaging s)))))))

/-! ### The other changes of the link state -/

/-- The entry to DOWN from TRAINING (R168, R169). -/
def enterDown (s : State) : State :=
  s.setUplink
    { s.uplink with
      linkState := .down
      trainingDeadline := none
      initDeadline := some (s.now + Config.initInterval)
      initDue := true }

/-- The entry to TRAINING from DOWN (R169). -/
def enterTraining (s : State) : State :=
  s.setUplink
    { s.uplink with
      linkState := .training
      trainingDeadline := some (s.now + Config.trainingTime)
      initDeadline := some (s.now + Config.initInterval)
      initDue := true }

/-- The entry to UP with the credits of the INIT that brought it (R170, R137). -/
def enterUp (f : InitFields) (s : State) : State :=
  offerPending
    (s.setUplink
      { s.uplink with
        linkState := .up
        linkEpoch := s.uplink.linkEpoch + 1
        trainingDeadline := none
        initDeadline := none
        initDue := false
        nextTx := 0
        nextRx := 0
        requestCredits := f.requestCredits
        postedCredits := f.postedCredits
        pendingCredits := 0
        creditsReturned := 0
        classPointer := .request
        replySource := .events })

/-- Loss of signal for more than 1 ms (R168, R169, R171). -/
def execLossOfSignal (s : State) : Host.Outcome State Fault Refusal :=
  .next
    (match s.uplink.linkState with
    | .up => linkLoss false true s
    | .training => enterDown s
    | .down => s)

/-- TrainingDeadline passes (R169). -/
def execTrainingDeadlineExpiry (s : State) : Host.Outcome State Fault Refusal :=
  .next
    (match s.uplink.linkState, s.uplink.trainingDeadline with
    | .training, some d => enterDown (passTo d s)
    | _, _ => s)

/-- The 1 ms interval of INIT frames passes in DOWN or TRAINING (R168, R169). -/
def execInitIntervalExpiry (s : State) : Host.Outcome State Fault Refusal :=
  .next
    (match s.uplink.initDeadline with
    | some d =>
      if linkUp s then s
      else
        let t := passTo d s
        t.setUplink { t.uplink with initDue := true, initDeadline := some (t.now + Config.initInterval) }
    | none => s)

end Sys2Proof.Machine
end

