-- ==== Sys2Proof/Machine/Replay.lean ====
section
/-! DEFINITION. Acknowledgement, replay and credits: the frames that keep the uplink reliable (R172 to R178). -/

namespace Sys2Proof.Machine

/-! ### Acknowledgement of the bridge's frames -/

/-- Oldest: the Seq of the oldest frame in the replay buffer, NextTx while it is empty (R175). -/
def oldest (u : Uplink) : SeqNo :=
  match u.replay with
  | f :: _ => f.seq
  | [] => u.nextTx

/-- The number of frames that an acknowledgement of Seq n removes; 0 when n is no Seq in the buffer (R176). -/
def acknowledged (u : Uplink) (n : SeqNo) : Nat :=
  if (n - oldest u).toNat < u.replay.length then (n - oldest u).toNat + 1 else 0

/-- Whether n is Oldest - 1, the last Seq acknowledged (R176). -/
def isLastAcknowledged (u : Uplink) (n : SeqNo) : Bool := n + 1 == oldest u

/-- Progress: k frames are removed, k at least 1 (R176). -/
def progress (k : Nat) (s : State) : State :=
  let u := s.uplink
  let left := u.replay.drop k
  let next :=
    match u.replayNext with
    | none => none
    | some m =>
      if left = [] then none
      else if (m - oldest u).toNat < k then some (oldest { u with replay := left }) else some m
  s.setUplink
    { u with
      replay := left
      replayCount := 0
      replayDeadline := if left = [] then none else some (s.now + Config.replayTime)
      replayNext := next }

/-- ACK(n), by an ACK frame or by the AckSeq of a sequenced frame (R176, R173). -/
def applyAck (n : SeqNo) (s : State) : State :=
  if acknowledged s.uplink n = 0 then s else progress (acknowledged s.uplink n) s

/-- A replay begins (R177). -/
def beginReplay (s : State) : State :=
  s.setUplink
    { s.uplink with
      replayCount := s.uplink.replayCount + 1
      replays := satInc s.uplink.replays
      replayNext := some (oldest s.uplink)
      replayDeadline := some (s.now + Config.replayTime) }

/-- A replay is due: it begins, or, with ReplayCount at 4, a link loss starts (R177, R171). -/
def replayDue (s : State) : State :=
  if s.uplink.replayCount < Config.replayLimit then beginReplay s else linkLoss false true s

/-- A replay called for by a NAK begins if frames remain (R176). -/
def replayIfAny (s : State) : State := if s.uplink.replay = [] then s else replayDue s

/-- NAK(n) (R176). -/
def applyNak (n : SeqNo) (s : State) : State :=
  if acknowledged s.uplink n = 0 then (if isLastAcknowledged s.uplink n then replayIfAny s else s)
  else replayIfAny (progress (acknowledged s.uplink n) s)

/-- ReplayDeadline passes (R177). -/
def execReplayDeadlineExpiry (s : State) : Host.Outcome State Fault Refusal :=
  .next
    (match s.uplink.replayDeadline with
    | some d => replayDue (passTo d s)
    | none => s)

/-! ### Bad frames and gaps -/

/-- A gap: a NAK is due unless one has been sent for it (R173). -/
def gap (s : State) : State := if s.uplink.nakSent then s else s.setUplink { s.uplink with nakDue := true }

/-- A bad frame that did not fail its CRC: a gap while UP (R172). -/
def malformedFrame (s : State) : State := if linkUp s then gap s else s

/-- A frame that failed its CRC check is counted in any link state (R172, R182). -/
def crcFailed (s : State) : State :=
  malformedFrame (s.setUplink { s.uplink with crcErrors := satInc s.uplink.crcErrors })

/-- A frame that fails the checks of R183 arrives; bytes that pass them are no bad frame (R172, R183; log 2). -/
def execBadFrameReceived (bytes : List Byte) (s : State) : Host.Outcome State Fault Refusal :=
  .next
    (match checkFrame bytes with
    | .good => s
    | .crcFailed => crcFailed s
    | .malformed => malformedFrame s)

/-- A frame of a kind arrives: check 4 of R183 on its payload, then its own rule (R172). -/
def receive (k : HostKind) (payload : List Byte) (rule : State → State) (s : State) : State :=
  if lengthFits k payload.length then rule s else malformedFrame s

/-! ### Link frames -/

/-- A received INIT by the link state (R168, R169, R171). -/
def initFrame (f : InitFields) (s : State) : State :=
  match s.uplink.linkState with
  | .down => if Config.maxPayload ≤ f.maxPayload then enterTraining s else s
  | .training => if Config.maxPayload ≤ f.maxPayload ∧ f.heard = true then enterUp f s else s
  | .up => linkLoss true false s

/-- A rule that acts while the link is UP only (R172). -/
def whenUp (rule : State → State) (s : State) : State := if linkUp s then rule s else s

/-- An INIT frame arrives (R168, R169, R171). -/
def execInitReceived (payload : List Byte) (s : State) : Host.Outcome State Fault Refusal :=
  .next (receive .init payload (initFrame (initFields payload)) s)

/-- An ACK frame arrives (R176). -/
def execAckReceived (payload : List Byte) (s : State) : Host.Outcome State Fault Refusal :=
  .next (receive .ack payload (whenUp (applyAck (namedSeq payload))) s)

/-- A NAK frame arrives (R176). -/
def execNakReceived (payload : List Byte) (s : State) : Host.Outcome State Fault Refusal :=
  .next (receive .nak payload (whenUp (applyNak (namedSeq payload))) s)

/-- A credit count after an increment: it stops at 255 (R178). -/
def addCredits (count : BitVec 8) (increment : Byte) : BitVec 8 :=
  if count.toNat + increment.toNat ≤ 255 then count + increment else 255

/-- An increment would take the count past 255 (R178). -/
def overflows (count : BitVec 8) (increment : Byte) : Bool := decide (255 < count.toNat + increment.toNat)

/-- The increments of a CREDIT frame are added, and an overflow is reported once (R178). -/
def grantCredits (request posted : Byte) (s : State) : State :=
  let u := s.uplink
  let granted :=
    s.setUplink
      { u with requestCredits := addCredits u.requestCredits request, postedCredits := addCredits u.postedCredits posted }
  if overflows u.requestCredits request || overflows u.postedCredits posted then
    takeFault { kind := .creditOverflow } granted
  else granted

/-- A CREDIT frame arrives; its command increment is ignored (R178). -/
def execCreditReceived (payload : List Byte) (s : State) : Host.Outcome State Fault Refusal :=
  .next (receive .credit payload (whenUp (grantCredits (payload.getD 1 0) (payload.getD 2 0))) s)

/-- A LINK_RESET frame arrives (R171). -/
def execLinkResetReceived (payload : List Byte) (s : State) : Host.Outcome State Fault Refusal :=
  .next (receive .linkReset payload (whenUp (linkLoss false false)) s)

/-! ### Sequenced frames -/

/-- A frame is accepted in order, and counts towards an acknowledgement (R173, R174; log 12). -/
def acceptFrame (s : State) : State :=
  let u := s.uplink
  s.setUplink
    { u with
      nextRx := u.nextRx + 1
      nakSent := false
      unacknowledged := min 4 (u.unacknowledged + 1)
      ackDeadline := if u.unacknowledged = 0 then some (s.now + Config.ackTime) else u.ackDeadline
      ackDue := u.ackDue || decide (4 ≤ u.unacknowledged + 1) }

/-- An ACK naming NextRx - 1 is made due (R173, R174). -/
def makeAckDue (s : State) : State := s.setUplink { s.uplink with ackDue := true }

/-- A sequenced frame while UP: its AckSeq is applied, then its Seq is compared with NextRx (R173). -/
def sequenced (seq ackSeq : SeqNo) (deliver : State → State) (s : State) : State :=
  let acked := applyAck ackSeq s
  let ahead := (seq - acked.uplink.nextRx).toNat
  if ahead = 0 then deliver (acceptFrame acked)
  else if ahead ≤ 31 then gap acked
  else makeAckDue acked

/-- A MEM_DATA frame arrives (R54, R173). -/
def execMemDataReceived (seq ackSeq : SeqNo) (payload : List Byte) (s : State) : Host.Outcome State Fault Refusal :=
  .next (receive .memData payload (whenUp (sequenced seq ackSeq (memData payload))) s)

/-- AckDeadline passes: an ACK is due (R174). -/
def execAckDeadlineExpiry (s : State) : Host.Outcome State Fault Refusal :=
  .next
    (match s.uplink.ackDeadline with
    | some d => makeAckDue (passTo d s)
    | none => s)

end Sys2Proof.Machine
end

