-- ==== Sys2Proof/Machine/Transmit.lean ====
section
/-! DEFINITION. The transmitter: link frames, replays, and the rotation among the four classes of new sequenced frame (R175,
R177, R180, R181). -/

namespace Sys2Proof.Machine

/-- A CREDIT frame is due (R179). -/
def creditDue (s : State) : Bool := linkUp s && decide (0 < s.uplink.pendingCredits)

/-- The uplink after a frame that acknowledges has been sent: nothing is left to acknowledge (R173, R174). -/
def Uplink.acknowledging (u : Uplink) : Uplink := { u with unacknowledged := 0, ackDeadline := none, ackDue := false }

/-- The last Seq accepted in order, NextRx - 1 (R173). -/
def lastAccepted (u : Uplink) : SeqNo := u.nextRx - 1

/-- A LINK_RESET is sent (R171). -/
def sendLinkReset (s : State) : State :=
  s.setUplink { s.uplink with resetDue := false, lane := some (.link .linkReset) }

/-- An INIT is sent, with Heard no in DOWN and yes in TRAINING (R168, R169). -/
def sendInit (s : State) : State :=
  s.setUplink
    { s.uplink with
      initDue := false
      lane := some (.link (.init (s.uplink.linkState == .training) s.uplink.linkEpoch)) }

/-- A NAK is sent (R173, R182). -/
def sendNak (s : State) : State :=
  s.setUplink
    { s.uplink.acknowledging with
      nakDue := false
      nakSent := true
      naksSent := satInc s.uplink.naksSent
      lane := some (.link (.nak (lastAccepted s.uplink))) }

/-- An ACK is sent (R174). -/
def sendAck (s : State) : State :=
  s.setUplink { s.uplink.acknowledging with lane := some (.link (.ack (lastAccepted s.uplink))) }

/-- A CREDIT is sent (R179). -/
def sendCredit (s : State) : State :=
  s.setUplink
    { s.uplink with
      creditsReturned := s.uplink.creditsReturned + BitVec.ofNat 16 s.uplink.pendingCredits
      pendingCredits := 0
      lane := some (.link (.credit s.uplink.pendingCredits)) }

/-- The frame that ReplayNext names is sent again with the present AckSeq, and ReplayNext moves on (R177, R174). -/
def sendReplay (n : SeqNo) (s : State) : State :=
  match s.uplink.replay.find? (fun f => f.seq = n) with
  | some f =>
    s.setUplink
      { s.uplink.acknowledging with
        replayNext := if n + 1 = s.uplink.nextTx then none else some (n + 1)
        lane := some (.sequenced n (lastAccepted s.uplink) f.frame) }
  | none => s.setUplink { s.uplink with replayNext := none }

/-- A new sequenced frame is transmitted (R175, R174). -/
def transmit (f : UpFrame) (s : State) : State :=
  let u := s.uplink
  s.setUplink
    { u.acknowledging with
      nextTx := u.nextTx + 1
      replay := u.replay ++ [{ seq := u.nextTx, frame := f }]
      replayDeadline := if u.replay = [] then some (s.now + Config.replayTime) else u.replayDeadline
      lane := some (.sequenced u.nextTx (lastAccepted u) f) }

/-! ### The four classes -/

/-- The class served last (R180). -/
def setClass (c : TxClass) (s : State) : State := s.setUplink { s.uplink with classPointer := c }

/-- The source served last within the REPLY class (R181). -/
def setSource (x : ReplySource) (s : State) : State := s.setUplink { s.uplink with replySource := x }

/-- The head of the reply queue is transmitted (R153, R181). -/
def sendReport (f : ReportFrame) (rest : List ReportFrame) (s : State) : State :=
  transmit (.report f) (setSource .replyQueue (s.setCommand { s.command with replies := rest }))

/-- The first offered EVENT frame is transmitted (R129, R181). -/
def sendEvent (f : EventFrame) (rest : List EventFrame) (s : State) : State :=
  transmit (.event f)
    (setSource .events (eventTransmitted f.slot (s.setEvents { s.events with offered := rest })))

/-- The REPLY class is served (R181). -/
def serveReply (s : State) : State :=
  match s.command.replies, s.events.offered with
  | f :: fs, e :: es => if s.uplink.replySource = .replyQueue then sendEvent e es s else sendReport f fs s
  | f :: fs, [] => sendReport f fs s
  | [], e :: es => sendEvent e es s
  | [], [] => s

/-- The FAULT class is served (R146). -/
def serveFault (s : State) : State :=
  match s.faults.queue with
  | r :: rest => transmit (.fault r) (s.setFaults { s.faults with queue := rest })
  | [] => s

/-- The frame made from a posted entry (R65). -/
def postedFrame (p : PostedEntry) : UpFrame :=
  match p.kind with
  | .write mask data => .memWrite p.hostAddress mask p.slot p.locked data
  | .exclEnd => .exclEnd p.slot p.hostAddress

/-- The POSTED class is served: the head leaves, a credit is consumed, and the drains learn of it (R65, R66, R64). -/
def servePosted (s : State) : State :=
  match s.tracker.posted with
  | p :: rest =>
    let left := reportTransmitted p (leavePosted rest s)
    transmit (postedFrame p) (left.setUplink { left.uplink with postedCredits := left.uplink.postedCredits - 1 })
  | [] => s

/-- The frame made from a tag of the request queue (R52). -/
def requestFrame (tag : TagRef) (r : Request) : UpFrame :=
  match r.purpose with
  | .lineFetch _ => .memRead tag r.slot false r.length r.hostAddress
  | .lockedRead => .memRead tag r.slot true r.length r.hostAddress
  | .exclBegin => .exclBegin tag r.slot r.hostAddress

/-- The REQUEST class is served: the head becomes OUTSTANDING with its Deadline, and a credit is consumed (R53, R66). -/
def serveRequest (s : State) : State :=
  match s.tracker.requestQueue with
  | i :: rest =>
    let record := s.tracker.tags.get i
    match record.state with
    | .waiting r =>
      let sent :=
        s.setTracker
          { s.tracker with
            requestQueue := rest
            tags :=
              s.tracker.tags.set i ⟨.outstanding r (s.now + Config.ms s.tracker.readTimeout), record.generation⟩ }
      transmit (requestFrame ⟨i, record.generation⟩ r)
        (sent.setUplink { sent.uplink with requestCredits := sent.uplink.requestCredits - 1 })
    | _ => s
  | [] => s

/-- A class has a frame ready (R180). -/
def classReady (s : State) : TxClass → Bool
  | .reply => s.command.replies ≠ [] || s.events.offered ≠ []
  | .fault => s.faults.queue ≠ []
  | .posted => s.tracker.posted ≠ [] && decide (1 ≤ s.uplink.postedCredits.toNat)
  | .request => s.tracker.requestQueue ≠ [] && decide (1 ≤ s.uplink.requestCredits.toNat)

/-- A class is served, and ClassPointer is set to it (R180). -/
def serveClass (c : TxClass) (s : State) : State :=
  match c with
  | .reply => serveReply (setClass .reply s)
  | .fault => serveFault (setClass .fault s)
  | .posted => servePosted (setClass .posted s)
  | .request => serveRequest (setClass .request s)

/-- The classes in the order in which they are tested: beginning with the one after ClassPointer (R180). -/
def classesAfter : TxClass → List TxClass
  | .reply => [.fault, .posted, .request, .reply]
  | .fault => [.posted, .request, .reply, .fault]
  | .posted => [.request, .reply, .fault, .posted]
  | .request => [.reply, .fault, .posted, .request]

/-- Row 3 of R180: a new sequenced frame, while UP and with replay room. -/
def serveNew (s : State) : State :=
  if linkUp s && decide (s.uplink.replay.length < Config.replayPlaces) then
    match (classesAfter s.uplink.classPointer).find? (classReady s) with
    | some c => serveClass c s
    | none => s
  else s

/-- The transmitter is free: its arbiter chooses the next frame by the rows of R180, and the frame is sent. -/
def transmitNext (s : State) : State :=
  if s.uplink.resetDue then sendLinkReset s
  else if s.uplink.initDue then sendInit s
  else if s.uplink.nakDue then sendNak s
  else if s.uplink.ackDue then sendAck s
  else if creditDue s then sendCredit s
  else
    match s.uplink.replayNext with
    | some n => sendReplay n s
    | none => serveNew s

/-- The transmitter is free and its arbiter chooses (R180). -/
def execTransmitterFree (s : State) : Host.Outcome State Fault Refusal := .next (transmitNext s)

end Sys2Proof.Machine
end

