-- ==== Sys2Proof/Machine/Arrival.lean ====
section
/-! DEFINITION. STATUS_QUERY's section records (section 11.8), and the arrival of COMMAND frames: rows 1 to 8 of R155, Held
entries and the immediate commands. -/

namespace Sys2Proof.Machine

/-! ### Codes of enumerated fields (section 11.8) -/

/-- The code of LinkState (section 11.8). -/
def LinkState.code : LinkState → Nat
  | .down => 0
  | .training => 1
  | .up => 2

/-- The code of Wait (section 11.8). -/
def Wait.code : Wait → Nat
  | .none => 0
  | .episode => 1
  | .bus => 2
  | .barrier => 3
  | .drain => 4

/-- The code of Phase (section 11.8). -/
def Phase.code : Phase → Nat
  | .requesting => 0
  | .presenting => 1
  | .draining => 2

/-- One byte of a number. -/
def byte (n : Nat) : Byte := BitVec.ofNat 8 n

/-! ### LINK and LINES -/

/-- The Executing byte with the code and tag of the executing command (section 11.8). -/
def executingFields (c : CommandUnit) : List Byte :=
  match c.executing with
  | some e => byte (1 + flag c.resetting 1 + 16 * e.wait.code) :: e.code :: be 2 e.tag.toNat
  | none => byte (flag c.resetting 1) :: zeros 3

/-- The LINK section, 30 bytes (R163, R182, section 11.8). -/
def linkSection (s : State) : List Byte :=
  let u := s.uplink
  [byte u.linkState.code, u.linkEpoch, u.nextTx.setWidth 8, u.nextRx.setWidth 8, byte u.replay.length,
    byte (flag u.replayNext.isSome 0), byte u.replayCount, u.requestCredits, u.postedCredits, byte u.pendingCredits] ++
  be 2 u.creditsReturned.toNat ++ be 2 u.crcErrors.toNat ++ be 2 u.naksSent.toNat ++ be 2 u.replays.toNat ++
  be 2 u.linkLosses.toNat ++
  [byte s.command.queue.length, byte (s.command.queue.filter (·.held)).length] ++ executingFields s.command ++
  [byte s.command.replies.length, 0] ++ be 2 s.master.retryLimit

/-- The number of offsets in a ByteValid set (section 11.8). -/
def offsetCount (v : BitVec 64) : Nat := ((List.range 64).filter (fun i => v.getLsbD i)).length

/-- State, Direct, Stale and Slot of a line record; then Epoch, MapIndex with LastUse, and HostLine (section 11.8). -/
def lineHead (code : Nat) (direct stale : Bool) (b : Binding) (lastUse : Nat) : List Byte :=
  [byte (code + flag direct 3 + flag stale 4 + 32 * b.slot.val), b.epoch] ++
    be 2 (b.mapIndex.val + 4096 * lastUse) ++ be 6 b.hostLine.toNat

/-- One line record, 15 bytes; LastUse is the place in the LRU order, 0 for least recent (R20, section 11.8). -/
def lineRecord (lru : List LineIx) (i : LineIx) (l : Line) : List Byte :=
  match l with
  | .free => zeros 15
  | .fetching b f readStart stale tag =>
    lineHead 1 f.direct stale b 0 ++ [byte f.start, byte f.stop, byte (readStart.getD 0), tagByte tag, 0]
  | .valid b f _ consume =>
    lineHead 2 f.direct false b (lru.idxOf i) ++ [byte f.start, byte f.stop, byte consume, 0, 0]
  | .error b f tag =>
    lineHead 3 f.direct false b (lru.idxOf i) ++ [byte f.start, byte f.stop, 0, tagByte tag, 0]
  | .gathering b _ v _ => lineHead 4 false false b 0 ++ [byte (offsetCount v), 0, 0, 0, 0]
  | .closed b _ v => lineHead 5 false false b 0 ++ [byte (offsetCount v), 0, 0, 0, 0]

/-- The closed-order list, one index per 4 bits, the head in the high half of the first byte (section 11.8). -/
def closedList (order : List LineIx) : List Byte :=
  let nibble (k : Nat) : Nat := match order[k]? with | some i => i.val | none => 0
  [byte (16 * nibble 0 + nibble 1), byte (16 * nibble 2 + nibble 3), byte (16 * nibble 4 + nibble 5),
    byte (16 * nibble 6 + nibble 7)]

/-- The LINES section, 132 bytes (R163, R20, R45, R1, section 11.8). -/
def linesSection (s : State) : List Byte :=
  let st := s.staging
  [byte (flag s.pageMap.on 0 + flag st.buffering 1 + flag st.readAhead 2), byte st.gatherIdle,
    byte st.closedOrder.length, 0] ++
  be 4 s.pageMap.base.toNat ++ closedList st.closedOrder ++
  allLines.flatMap (fun i => lineRecord st.lru i (lineAt i s))

/-! ### UPSTREAM -/

/-- The code of a Purpose within a tag entry's status: 1, 2, 3 (section 11.8). -/
def Purpose.code : Purpose → Nat
  | .lineFetch _ => 1
  | .lockedRead => 2
  | .exclBegin => 3

/-- One tag entry, 7 bytes (R69, section 11.8). -/
def tagEntry (t : TagRecord) : List Byte :=
  let g := 8 * t.generation.toNat
  match t.state with
  | .free => byte g :: zeros 6
  | .waiting r => byte (r.purpose.code + g + 32 * r.slot.val) :: be 6 r.hostAddress.toNat
  | .outstanding r _ => byte (4 + r.purpose.code + g + 32 * r.slot.val) :: be 6 r.hostAddress.toNat

/-- The UPSTREAM section, 124 bytes (R69, R163, section 11.8). -/
def upstreamSection (s : State) : List Byte :=
  let t := s.tracker
  t.tags.items.flatMap tagEntry ++
  [byte t.requestQueue.length, (match t.requestQueue with | i :: _ => byte i.val | [] => 0), byte t.posted.length,
    byte (flag t.writeHold 0)] ++
  be 2 t.nextPosted.toNat ++ (match t.posted with | p :: _ => be 2 p.number.toNat | [] => zeros 2) ++
  [byte t.holdHigh, byte t.holdLow, byte t.readTimeout, 0]

/-! ### SLOTS -/

/-- The Event byte of a slot entry (R139, section 11.8). -/
def eventByte (r : EventRecord) : Byte :=
  let common := flag r.resend 2 + flag r.masked 3
  match r.state with
  | .idle => byte common
  | .pending drained => byte (1 + common + flag drained 4)
  | .sent transmitted => byte (2 + common + flag transmitted 5)

/-- One slot entry, 8 bytes (R93, R139, R147, section 11.8). -/
def slotEntry (s : State) (slot : Slot) : List Byte :=
  let r := slotAt slot s
  [byte (flag r.enabled 0 + flag r.fenced 1 + flag r.inReset 2 + flag r.autofence 3 +
      flag (s.events.lines.get slot) 4), s.faults.summaries.get slot] ++
  be 2 r.fencedAborts.toNat ++ be 2 r.downAborts.toNat ++ [eventByte (eventAt slot s), (eventAt slot s).seq]

/-- The Owner byte (section 11.8). -/
def ownerByte : Owner → Byte
  | .none => 0xFF
  | .master => 6
  | .slot s => byte s.val

/-- The downstream access record within the SLOTS section; zeros while absent (R115, section 11.8; log 19). -/
def accessSection (m : BridgeMaster) : List Byte :=
  match m.access with
  | none => zeros 14
  | some a =>
    [byte (1 + flag a.write 1 + 4 * a.phase.code + 16 * spaceCode a.space),
      (match a.slot with | some slot => byte slot.val | none => 0)] ++
    be 2 a.tag.toNat ++ be 4 a.address.toNat ++ [byte a.length, byte a.bytesDone] ++ be 2 a.retryCount ++
    be 2 a.retryLimit

/-- The SLOTS section, 64 bytes (R93, R163, section 11.8). -/
def slotsSection (s : State) : List Byte :=
  allSlots.flatMap (slotEntry s) ++ [ownerByte s.bus.owner, byte s.bus.pointer.val] ++ accessSection s.master

/-! ### LOCKS and FAULTS -/

/-- The code of HostLockState (section 11.8). -/
def HostLock.code : HostLock → Nat
  | .free => 0
  | .acquiring => 1
  | .held _ => 2

/-- The LimitDeadline of the host lock, present while HELD (R95). -/
def HostLock.deadline : HostLock → Option Time
  | .held d => some d
  | _ => none

/-- The code of EpisodeState (section 11.8); 0 is NONE. -/
def EpisodeState.code : EpisodeState → Nat
  | .requested => 1
  | .opened => 2
  | .abandoning => 3

/-- The Flags byte of the LOCKS section; BeginQueued is a field of REQUESTED and ABANDONING only (R100, section 11.8;
log 25). -/
def episodeFlags (e : Episode) : Byte :=
  byte (flag (e.beginQueued && !(e.state == .opened)) 0 + flag e.beginTag.isSome 1 + flag e.heldRead.isSome 2 +
    flag (e.heldRead.any (fun h => !h.isWaiting)) 3 + flag e.endPending 4)

/-- State, Slot, Flags, BeginTag of the episode, then AbortNext and its HostAddress (section 11.8). -/
def episodeFields (l : LockUnit) : List Byte :=
  match l.episode with
  | none => zeros 4 ++ [l.abortNext.setWidth 8] ++ zeros 6
  | some e =>
    [byte e.state.code, byte e.slot.val, episodeFlags e, (match e.beginTag with | some t => tagByte t | none => 0),
      l.abortNext.setWidth 8] ++ be 6 e.hostAddress.toNat

/-- The LOCKS section, 22 bytes (R112, R163, section 11.8). -/
def locksSection (s : State) : List Byte :=
  let l := s.locks
  byte l.hostLock.code :: episodeFields l ++ be 4 (remaining l.hostLock.deadline s) ++
  be 2 (remaining (l.episode.bind (·.limit)) s) ++ [byte l.lockLimit, 0] ++ be 2 l.episodeLimit

/-- The FAULTS section, 8 bytes (R151, R163, section 11.8). -/
def faultsSection (s : State) : List Byte :=
  let f := s.faults
  [byte f.queue.length, 0] ++ (match f.queue with | r :: _ => be 2 r.seq.toNat | [] => zeros 2) ++ be 2 f.nextSeq.toNat ++
  be 2 f.dropped.toNat

/-- The section record of a STATUS_QUERY (R163). -/
def sectionRecord (x : StatusSection) (s : State) : List Byte :=
  match x with
  | .link => linkSection s
  | .lines => linesSection s
  | .upstream => upstreamSection s
  | .slots => slotsSection s
  | .locks => locksSection s
  | .faults => faultsSection s

/-! ### Arrival (R155) -/

/-- The head and the arguments of a COMMAND frame (section 11.5). -/
structure CommandFrame where
  tag : BitVec 16
  code : Byte
  args : List Byte
  deriving DecidableEq, Repr

/-- The command head of a payload: Tag (2), Code, reserved; none when it is shorter (R155 row 1, section 11.5). -/
def commandFrame : List Byte → Option CommandFrame
  | t1 :: t0 :: code :: _ :: args => some { tag := BitVec.ofNat 16 (u16 t1 t0), code := code, args := args }
  | _ => none

/-- Row 4 of R155: the tag is that of the executing command or of an entry with Held no. -/
def tagInUse (tag : BitVec 16) (c : CommandUnit) : Bool :=
  c.executing.any (fun e => e.tag == tag) || c.queue.any (fun e => !e.held && e.tag == tag)

/-- What rows 4 to 8 of R155 decide. -/
inductive Verdict where
  | refused (code : ResultCode)
  | eventAck (slot : Slot) (seq : BitVec 8)
  | statusQuery (x : StatusSection)
  | ordered
  deriving DecidableEq, Repr

/-- Rows 4 to 8 of R155, in their order. -/
def verdict (f : CommandFrame) (s : State) : Verdict :=
  if tagInUse f.tag s.command then .refused .tagInUse
  else if !knownCode f.code then .refused .unknownCommand
  else if !argumentsPass s.pageMap f.code f.args then .refused .badArgument
  else
    match parseCommand f.code f.args with
    | some (.eventAck slot seq) => .eventAck slot seq
    | some (.statusQuery x) => .statusQuery x
    | _ => .ordered

/-- An arrival answer is queued and the credit returned (R155, R154). -/
def answerArrival (f : CommandFrame) (result : ResultCode) (body : List Byte) (s : State) : State :=
  returnCredit (queueReport (.reply f.tag f.code result body) s)

/-- EVENT_ACK is executed (R132, R133). -/
def runEventAck (f : CommandFrame) (slot : Slot) (seq : BitVec 8) (s : State) : State :=
  if ackMatches slot seq s then acknowledge slot (answerArrival f .ok [] s) else answerArrival f .badSequence [] s

/-- An arrival answer of rows 4 to 7 is carried out; row 8 has none (R155, R157; log 14). -/
def answer (f : CommandFrame) (v : Verdict) (s : State) : State :=
  match v with
  | .refused code => answerArrival f code [] s
  | .eventAck slot seq => runEventAck f slot seq s
  | .statusQuery x => answerArrival f .ok (sectionRecord x s) s
  | .ordered => s

/-- A frame joins the command queue (R155 rows 3 and 8). -/
def enqueue (f : CommandFrame) (held : Bool) (s : State) : State :=
  s.setCommand
    { s.command with queue := s.command.queue ++ [{ tag := f.tag, code := f.code, args := f.args, held := held }] }

/-- Rows 3 to 8 of R155 for an arriving frame. -/
def decideArrival (f : CommandFrame) (s : State) : State :=
  match verdict f s with
  | .ordered => enqueue f false s
  | v => if answerAdmitted s then answer f v s else enqueue f true s

/-- A COMMAND frame delivered to the Command Unit (R155). -/
def arrive (payload : List Byte) (s : State) : State :=
  match commandFrame payload with
  | none => returnCredit s
  | some f =>
    if Config.commandPlaces ≤ s.command.queue.length then takeFault { kind := .commandOverflow } s
    else decideArrival f s

/-- A COMMAND frame arrives (R155, R173). -/
def execCommandReceived (seq ackSeq : SeqNo) (payload : List Byte) (s : State) : Host.Outcome State Fault Refusal :=
  .next (receive .command payload (whenUp (sequenced seq ackSeq (arrive payload))) s)

/-- The oldest Held entry of a queue, with the entries before and after it (R153). -/
def oldestHeld : List CommandEntry → Option (List CommandEntry × CommandEntry × List CommandEntry)
  | [] => none
  | e :: rest =>
    if e.held then some ([], e, rest)
    else
      match oldestHeld rest with
      | some (before, h, after) => some (e :: before, h, after)
      | none => none

/-- The oldest Held entry is checked again from row 3: answered and removed, or kept in its place with Held no (R153).
DESIGN CHOICE, log 14, unsafe: the entry is removed before a STATUS_QUERY fills its section, so the LINK section does not
count the query's own entry in QueueOccupancy and HeldEntries. -/
def takeHeld (before : List CommandEntry) (e : CommandEntry) (after : List CommandEntry) (s : State) : State :=
  let f : CommandFrame := { tag := e.tag, code := e.code, args := e.args }
  match verdict f s with
  | .ordered => s.setCommand { s.command with queue := before ++ { e with held := false } :: after }
  | v => answer f v (s.setCommand { s.command with queue := before ++ after })

/-- The oldest Held entry of the command queue is taken, while the reply queue holds 6 frames or fewer (R153). -/
def execHeldEntryTaken (s : State) : Host.Outcome State Fault Refusal :=
  .next
    (match oldestHeld s.command.queue with
    | some (before, e, after) => if answerAdmitted s then takeHeld before e after s else s
    | none => s)

end Sys2Proof.Machine
end

