-- ==== Sys2Proof/Machine/Formats.lean ====
section
/-! DEFINITION. The bytes of the frames the bridge sends: header, payload and CRC (chapter 11). `wireBytes` of the frame on the
lane is what the host sees. -/

namespace Sys2Proof.Machine

/-- The code of a reply (section 11.5). -/
def ResultCode.code : ResultCode → Nat
  | .ok => 0
  | .unknownCommand => 1
  | .badArgument => 2
  | .tagInUse => 3
  | .noTarget => 4
  | .targetAbort => 5
  | .retryLimit => 6
  | .notHeld => 7
  | .badSequence => 8
  | .slotDisabled => 9

/-- The payload of a NOTICE: NoticeKind, Slot, reserved (section 11.4). -/
def noticePayload : Notice → List Byte
  | .lockExpired => [1, 0, 0, 0]
  | .slotResetDone slot => [2, byte slot.val, 0, 0]
  | .resetDone => [3, 0, 0, 0]

/-- The payload of a FAULT: the fault record of 24 bytes; absent fields are 0 (section 11.7, R185). -/
def faultPayload (r : FaultRecord) : List Byte :=
  let f := r.report
  be 2 r.seq.toNat ++
  [byte f.kind.code,
    byte (flag f.slot.isSome 0 + flag f.cardAddress.isSome 1 + flag f.hostAddress.isSome 2 + flag f.tag.isSome 3 +
      flag r.fenced 4),
    (match f.slot with | some slot => byte slot.val | none => 0), f.tag.getD 0] ++
  be 2 r.lostBefore.toNat ++ be 4 (f.cardAddress.getD 0).toNat ++ be 6 (f.hostAddress.getD 0).toNat ++
  (match f.discard with
    | some d =>
      [(match d.cause with | .linkLoss => 1 | .bridgeReset => 2), byte d.writes, byte d.reads, byte d.commands]
    | none => zeros 4) ++
  zeros 2

/-- The payload of an EVENT: Slot, EventSeq, Flags, reserved (section 11.4). -/
def eventPayload (f : EventFrame) : List Byte := [byte f.slot.val, f.seq, byte (flag f.resend 0), 0]

/-- The 64 bits of a ByteMask as 8 bytes; bit n stands for line offset n (section 11.3). -/
def maskBytes (mask : BitVec 64) : List Byte := be 8 mask.toNat

/-- Kind code and payload of a sequenced frame (R184, sections 11.3 to 11.5). -/
def upPayload : UpFrame → Byte × List Byte
  | .report (.reply tag code result body) => (0x20, be 2 tag.toNat ++ [code, byte result.code] ++ body)
  | .report (.notice n) => (0x21, noticePayload n)
  | .event f => (0x22, eventPayload f)
  | .fault r => (0x23, faultPayload r)
  | .memRead tag slot lock length a =>
    (0x24, [tagByte tag, byte slot.val, byte (flag lock 0), byte length] ++ be 6 a.toNat)
  | .memWrite a mask slot lock data =>
    (0x25, be 6 a.toNat ++ maskBytes mask ++ [byte slot.val, byte (flag lock 0)] ++ data.items)
  | .exclBegin tag slot a => (0x26, [tagByte tag, byte slot.val, 0, 0] ++ be 6 a.toNat)
  | .exclEnd slot a => (0x27, [byte slot.val, 0] ++ be 6 a.toNat)

/-- Kind code and payload of a link frame (R168, R179, section 11.2). -/
def linkPayload : LinkFrame → Byte × List Byte
  | .init heard epoch =>
    (0x01, [byte (flag heard 0), byte Config.revision] ++ be 2 Config.partCode ++ [epoch, 0] ++ be 2 Config.maxPayload ++
      [byte Config.commandCredits, 0, 0, 0])
  | .ack n => (0x02, n.setWidth 8 :: zeros 3)
  | .nak n => (0x03, n.setWidth 8 :: zeros 3)
  | .credit commands => (0x04, byte commands :: zeros 3)
  | .linkReset => (0x05, [])

/-- Header and payload: Kind, Seq, AckSeq, reserved, Length, Payload; Seq and AckSeq of a link frame are 0 (section 11.1,
R185). -/
def frameBody (kind seq ackSeq : Byte) (payload : List Byte) : List Byte :=
  [kind, seq, ackSeq, 0] ++ be 2 payload.length ++ payload

/-- A frame's header and payload (section 11.1). -/
def wireBody : WireFrame → List Byte
  | .link f => frameBody (linkPayload f).1 0 0 (linkPayload f).2
  | .sequenced seq ackSeq f => frameBody (upPayload f).1 (seq.setWidth 8) (ackSeq.setWidth 8) (upPayload f).2

/-- A whole frame, its CRC included (R183). -/
def wireBytes (f : WireFrame) : List Byte := wireBody f ++ crcField (wireBody f)

end Sys2Proof.Machine
end

