-- ==== Sys2Proof/Machine/Reset.lean ====
section
/-! DEFINITION. Power-on reset, and bridge reset with what each block does at it (R164 and the rules it gathers). -/

namespace Sys2Proof.Machine

/-- RESET_N asserted, or power-up: every block takes its power-on values. The levels of the INT inputs are the cards', and
the model's own fields go on (log 16). -/
def powerOn (s : State) : State :=
  { State.reset with
    events := { EventUnit.reset with lines := s.events.lines }
    now := s.now
    freeIndex := s.freeIndex
    uplink := { Uplink.reset with initDeadline := some (s.now + Config.initInterval) }
    pending := s.pending }

/-- POWER_ON_RESET (R167 and every block's reset table). -/
def execPowerOnReset (s : State) : Host.Outcome State Fault Refusal := .next (powerOn s)

/-- The Page Map at a bridge reset: the window off, the entries invalid, Base and Epochs kept (R1, R19). -/
def resetPageMap (m : PageMap) : PageMap where
  on := false
  base := m.base
  entries := m.entries.map (fun e => { MapEntry.reset with epoch := e.epoch })

/-- The Upstream Tracker at a bridge reset (R71). -/
def resetTracker (t : Tracker) : Tracker :=
  { discardTracker t with
    readTimeout := Tracker.reset.readTimeout
    holdHigh := Tracker.reset.holdHigh
    holdLow := Tracker.reset.holdLow }

/-- A dropped count increased by a number of records, saturating (R149). -/
def addDropped : Nat → BitVec 16 → BitVec 16
  | 0, d => d
  | n + 1, d => addDropped n (satInc d)

/-- The Fault Unit at a bridge reset, before its DISCARD record (R149 steps 1 and 2). -/
def resetFaults (f : FaultUnit) : FaultUnit :=
  { f with queue := [], dropped := addDropped f.queue.length f.dropped, summaries := FaultUnit.reset.summaries }

/-- The blocks take their bridge-reset values; the Uplink Port is not touched (R164 step 4). -/
def resetBlocks (s : State) : State :=
  { s with
    pageMap := resetPageMap s.pageMap
    staging := Staging.reset
    tracker := resetTracker s.tracker
    bus := { SlotBus.reset with answer := s.bus.answer }
    locks := LockUnit.reset
    master := BridgeMaster.reset
    events := { EventUnit.reset with lines := s.events.lines }
    faults := resetFaults s.faults }

/-- The credits of n entries discarded from the command queue are returned (R154, R164 step 3). -/
def returnCredits : Nat → State → State
  | 0, s => s
  | n + 1, s => returnCredits n (returnCredit s)

/-- BRIDGE_RESET starts: the reply, RESETTING, the queue emptied with its credits, the blocks' values, and the DISCARD record
(R164, R149). -/
def startBridgeReset (s : State) : State :=
  let replied := complete .ok [] s
  let emptied :=
    returnCredits s.command.queue.length
      (replied.setCommand { replied.command with queue := [], resetting := true })
  takeFault (discardReport .bridgeReset (writesHeld s) (busyTags s) s.command.queue.length) (resetBlocks emptied)

/-- BRIDGE_RESET at the head of the ordered sequence (R164). -/
def execBridgeReset (s : State) : Host.Outcome State Fault Refusal :=
  .next (runHead (fun c => match c with | .bridgeReset => some startBridgeReset | _ => none) s)

end Sys2Proof.Machine
end

