-- ==== Sys2Proof/Machine/Dispatch.lean ====
section
/-! DEFINITION. The meaning of each command of the block, one arm per row of the opcode table. -/

namespace Sys2Proof.Machine

def exec (i : Instr) (s : State) : Host.Outcome State Fault Refusal :=
  match i with
  | .powerOnReset => Sys2Proof.Machine.execPowerOnReset s
  | .initReceived payload => Sys2Proof.Machine.execInitReceived payload s
  | .ackReceived payload => Sys2Proof.Machine.execAckReceived payload s
  | .nakReceived payload => Sys2Proof.Machine.execNakReceived payload s
  | .creditReceived payload => Sys2Proof.Machine.execCreditReceived payload s
  | .linkResetReceived payload => Sys2Proof.Machine.execLinkResetReceived payload s
  | .commandReceived seq ackSeq payload => Sys2Proof.Machine.execCommandReceived seq ackSeq payload s
  | .memDataReceived seq ackSeq payload => Sys2Proof.Machine.execMemDataReceived seq ackSeq payload s
  | .badFrameReceived bytes => Sys2Proof.Machine.execBadFrameReceived bytes s
  | .lossOfSignal => Sys2Proof.Machine.execLossOfSignal s
  | .initIntervalExpiry => Sys2Proof.Machine.execInitIntervalExpiry s
  | .trainingDeadlineExpiry => Sys2Proof.Machine.execTrainingDeadlineExpiry s
  | .ackDeadlineExpiry => Sys2Proof.Machine.execAckDeadlineExpiry s
  | .replayDeadlineExpiry => Sys2Proof.Machine.execReplayDeadlineExpiry s
  | .transmitterFree => Sys2Proof.Machine.execTransmitterFree s
  | .heldEntryTaken => Sys2Proof.Machine.execHeldEntryTaken s
  | .mapWrite => Sys2Proof.Machine.execMapWrite s
  | .mapRead => Sys2Proof.Machine.execMapRead s
  | .mapInvalidate => Sys2Proof.Machine.execMapInvalidate s
  | .windowSet => Sys2Proof.Machine.execWindowSet s
  | .bufferControlFlush => Sys2Proof.Machine.execBufferControlFlush s
  | .bufferControlEnable => Sys2Proof.Machine.execBufferControlEnable s
  | .bufferControlDisable => Sys2Proof.Machine.execBufferControlDisable s
  | .setLimits => Sys2Proof.Machine.execSetLimits s
  | .slotControlEnable => Sys2Proof.Machine.execSlotControlEnable s
  | .slotControlDisable => Sys2Proof.Machine.execSlotControlDisable s
  | .slotControlFence => Sys2Proof.Machine.execSlotControlFence s
  | .slotControlUnfence => Sys2Proof.Machine.execSlotControlUnfence s
  | .slotControlReset => Sys2Proof.Machine.execSlotControlReset s
  | .slotControlMask => Sys2Proof.Machine.execSlotControlMask s
  | .slotControlUnmask => Sys2Proof.Machine.execSlotControlUnmask s
  | .slotControlClearFaults => Sys2Proof.Machine.execSlotControlClearFaults s
  | .slotControlAutofenceOn => Sys2Proof.Machine.execSlotControlAutofenceOn s
  | .slotControlAutofenceOff => Sys2Proof.Machine.execSlotControlAutofenceOff s
  | .cardRead => Sys2Proof.Machine.execCardRead s
  | .cardWrite => Sys2Proof.Machine.execCardWrite s
  | .lockOpen => Sys2Proof.Machine.execLockOpen s
  | .lockClose => Sys2Proof.Machine.execLockClose s
  | .bridgeReset => Sys2Proof.Machine.execBridgeReset s
  | .slotPresentation slot address transfer lock => Sys2Proof.Machine.execSlotPresentation slot address transfer lock s
  | .lockRelease slot => Sys2Proof.Machine.execLockRelease slot s
  | .busGrant requests => Sys2Proof.Machine.execBusGrant requests s
  | .grantIdleTimeout => Sys2Proof.Machine.execGrantIdleTimeout s
  | .requestDropped slot => Sys2Proof.Machine.execRequestDropped slot s
  | .presentationAnswer response data => Sys2Proof.Machine.execPresentationAnswer response data s
  | .noClaim => Sys2Proof.Machine.execNoClaim s
  | .interruptAssertion slot => Sys2Proof.Machine.execInterruptAssertion slot s
  | .interruptDeassertion slot => Sys2Proof.Machine.execInterruptDeassertion slot s
  | .slotResetEnd slot => Sys2Proof.Machine.execSlotResetEnd slot s
  | .gatherIdleExpiry line => Sys2Proof.Machine.execGatherIdleExpiry line s
  | .readTimeoutExpiry tag => Sys2Proof.Machine.execReadTimeoutExpiry tag s
  | .episodeLimitExpiry => Sys2Proof.Machine.execEpisodeLimitExpiry s
  | .lockLimitExpiry => Sys2Proof.Machine.execLockLimitExpiry s
  | .reinitialisationComplete => Sys2Proof.Machine.execReinitialisationComplete s
  | .slotDrainComplete slot => Sys2Proof.Machine.execSlotDrainComplete slot s
  | .globalDrainComplete => Sys2Proof.Machine.execGlobalDrainComplete s
  | .mapBarrierComplete => Sys2Proof.Machine.execMapBarrierComplete s
  | .closedLineMove => Sys2Proof.Machine.execClosedLineMove s
  | .exclEndPlaced => Sys2Proof.Machine.execExclEndPlaced s
  | .exclBeginAllocation => Sys2Proof.Machine.execExclBeginAllocation s
  | .slotTransactionAnswer response => Sys2Proof.Machine.execSlotTransactionAnswer response s
  | .slotTransactionNoClaim => Sys2Proof.Machine.execSlotTransactionNoClaim s

end Sys2Proof.Machine
end

