-- ==== Sys2Proof/Safety.lean ====
section
/-! DEFINITION. What the statements speak of: which blocks a command may change, what it means that a command stands at the
head of the ordered sequence and is answered, and the invariants that every step keeps. -/

namespace Sys2Proof

open Sys2Proof.Machine

/-! ### Frames -/

/-- The parts of the state that a command can leave alone: the blocks of 00 (Block Diagram) and the present time. -/
inductive Block where
  | pageMap
  | staging
  | tracker
  | bus
  | locks
  | master
  | events
  | faults
  | command
  | uplink
  | time
  deriving DecidableEq, Repr

/-- The part is the same in both states. -/
def Block.kept (s t : State) : Block → Prop
  | .pageMap => t.pageMap = s.pageMap
  | .staging => t.staging = s.staging
  | .tracker => t.tracker = s.tracker
  | .bus => t.bus = s.bus
  | .locks => t.locks = s.locks
  | .master => t.master = s.master
  | .events => t.events = s.events
  | .faults => t.faults = s.faults
  | .command => t.command = s.command
  | .uplink => t.uplink = s.uplink
  | .time => t.now = s.now

/-- Only the parts listed may differ, and the commands not yet taken are the same. -/
def OnlyChanges (changed : List Block) (s t : State) : Prop :=
  (∀ b : Block, b ∉ changed → b.kept s t) ∧ t.pending = s.pending

/-! ### Ordered commands -/

/-- The entry e at the head of the command queue, with `rest` behind it, carries the command c and may start (R158). -/
def Heads (s : State) (e : CommandEntry) (rest : List CommandEntry) (c : Command) : Prop :=
  s.command.queue = e :: rest ∧ parseCommand e.code e.args = some c ∧ s.command.executing = none ∧
    s.command.resetting = false ∧ s.command.replies.length ≤ 7 ∧ s.master.access = none ∧
    ∀ x ∈ s.command.queue, x.held = false

/-- The entry has left the queue, nothing executes, and its one reply stands at the tail of the reply queue (R158, R156). -/
def Replied (e : CommandEntry) (rest : List CommandEntry) (result : ResultCode) (body : List Byte) (s t : State) : Prop :=
  t.command =
    { s.command with
      queue := rest
      executing := none
      replies := s.command.replies ++ [.reply e.tag e.code result body] }

/-- The entry has left the queue and is the executing command, waiting for w; no reply is queued (R158). -/
def Waits (e : CommandEntry) (rest : List CommandEntry) (w : Wait) (s t : State) : Prop :=
  t.command =
    { s.command with queue := rest, executing := some { tag := e.tag, code := e.code, args := e.args, wait := w } }

/-- One command credit has been returned and nothing else of the uplink has changed; past 8 the count is free (R154, R179;
log 13). -/
def CreditReturned (s t : State) : Prop :=
  (∃ n, t.uplink = { s.uplink with pendingCredits := n }) ∧
    (s.uplink.pendingCredits < 8 → t.uplink.pendingCredits = s.uplink.pendingCredits + 1)

/-! ### The uplink -/

/-- The four causes of a link loss (R171): whether TRAINING is entered, whether a LINK_RESET is sent, and the time of the
loss. A replay is due while ReplayCount is 4 when ReplayDeadline passes, or when a NAK that removes nothing calls for one
(R176, R177). -/
def LossCause (c : Instr) (training reset : Bool) (time : Time) (s : State) : Prop :=
  (c = .lossOfSignal ∧ training = false ∧ reset = true ∧ time = s.now) ∨
    (c = .linkResetReceived [] ∧ training = false ∧ reset = false ∧ time = s.now) ∨
    (∃ p : List Byte, p.length = 12 ∧ c = .initReceived p ∧ training = true ∧ reset = false ∧ time = s.now) ∨
    (∃ d : Time, c = .replayDeadlineExpiry ∧ s.uplink.replayDeadline = some d ∧ 4 ≤ s.uplink.replayCount ∧
      training = false ∧ reset = true ∧ time = max s.now d) ∨
    ∃ p : List Byte, p.length = 4 ∧ c = .nakReceived p ∧ s.uplink.replay ≠ [] ∧ s.uplink.replay.length ≤ 16 ∧
      namedSeq p + 1 = oldest s.uplink ∧ 4 ≤ s.uplink.replayCount ∧ training = false ∧ reset = true ∧ time = s.now

/-- No link frame is due and no replay is in progress: row 3 of R180 decides. -/
def RowThree (s : State) : Prop :=
  s.uplink.resetDue = false ∧ s.uplink.initDue = false ∧ s.uplink.nakDue = false ∧ s.uplink.ackDue = false ∧
    s.uplink.pendingCredits = 0 ∧ s.uplink.replayNext = none

/-- Row 3 of R180 decides, the link is UP, and the replay buffer has room for a new frame. -/
def OnlyNewFrames (s : State) : Prop := RowThree s ∧ s.uplink.linkState = .up ∧ s.uplink.replay.length < 16

/-- The class has a frame to send, with a credit where the frame needs one (R180, R53, R65, R146, R181). -/
def Ready (s : State) : TxClass → Prop
  | .reply => s.command.replies ≠ [] ∨ s.events.offered ≠ []
  | .fault => s.faults.queue ≠ []
  | .posted => s.tracker.posted ≠ [] ∧ s.uplink.postedCredits ≠ 0
  | .request => s.tracker.requestQueue ≠ [] ∧ s.uplink.requestCredits ≠ 0

/-- The place of a class in the rotation REPLY, FAULT, POSTED, REQUEST (R180). -/
def rotationPlace : TxClass → Nat
  | .reply => 0
  | .fault => 1
  | .posted => 2
  | .request => 3

/-- How many classes are tested before this one: the class after ClassPointer is tested first (R180). -/
def testedBefore (s : State) (c : TxClass) : Nat := (rotationPlace c + 3 - rotationPlace s.uplink.classPointer) % 4

/-- Row 3 of R180 serves the class: it is ready, and every class tested before it is not. -/
def Chosen (c : TxClass) (s : State) : Prop :=
  OnlyNewFrames s ∧ Ready s c ∧ ∀ x, testedBefore s x < testedBefore s c → ¬ Ready s x

/-- No new sequenced frame has been sent: numbering, replay buffer, credits and rotation are as before, and only the Uplink
Port may differ (R175, R180). -/
def NothingNewSent (s t : State) : Prop :=
  OnlyChanges [.uplink] s t ∧ t.uplink.nextTx = s.uplink.nextTx ∧ t.uplink.replay = s.uplink.replay ∧
    t.uplink.postedCredits = s.uplink.postedCredits ∧ t.uplink.requestCredits = s.uplink.requestCredits ∧
    t.uplink.classPointer = s.uplink.classPointer

/-- A new sequenced frame has been transmitted (R175): numbered, kept for replay, on the lane, and acknowledging. -/
def Transmitted (f : UpFrame) (s t : State) : Prop :=
  t.uplink.nextTx = s.uplink.nextTx + 1 ∧ t.uplink.replay = s.uplink.replay ++ [⟨s.uplink.nextTx, f⟩] ∧
    t.uplink.lane = some (.sequenced s.uplink.nextTx (s.uplink.nextRx - 1) f) ∧ t.uplink.unacknowledged = 0 ∧
    t.uplink.ackDeadline = none ∧
    t.uplink.replayDeadline = if s.uplink.replay = [] then some (s.now + 100) else s.uplink.replayDeadline

/-! ### Sequenced frames -/

/-- The Uplink Port after a frame has been accepted in order (R173, R174). -/
def acceptedUplink (s : State) : Uplink :=
  { s.uplink with
    nextRx := s.uplink.nextRx + 1
    nakSent := false
    unacknowledged := min 4 (s.uplink.unacknowledged + 1)
    ackDeadline := if s.uplink.unacknowledged = 0 then some (s.now + 16) else s.uplink.ackDeadline
    ackDue := s.uplink.ackDue || decide (3 ≤ s.uplink.unacknowledged) }

/-- The link is UP and the next sequenced frame in order arrives, its AckSeq acknowledging nothing new (R173). -/
def InOrder (seq ackSeq : SeqNo) (s : State) : Prop :=
  s.uplink.linkState = .up ∧ seq = s.uplink.nextRx ∧ s.uplink.replay.length ≤ (ackSeq - oldest s.uplink).toNat

/-- The frame has been accepted and one command credit returned; past 8 the count is free (R154; log 13). -/
def AcceptedWithCredit (s t : State) : Prop :=
  (∃ n, t.uplink = { acceptedUplink s with pendingCredits := n }) ∧
    (s.uplink.pendingCredits < 8 → t.uplink.pendingCredits = s.uplink.pendingCredits + 1)

/-! ### Results of tags -/

/-- The step c ends the OUTSTANDING tag i, which asks for q until d, with this result at this time: the read timeout, or a
MEM_DATA in order with the tag's index and generation (R54, R55, R56). -/
def TagEnds (c : Instr) (i : TagIx) (q : Request) (d : Time) (result : FetchResult) (time : Time) (s : State) : Prop :=
  (c = .readTimeoutExpiry i ∧ result = .error .readTimeout ∧ time = max s.now d) ∨
    (∃ seq ackSeq tag status x y data, InOrder seq ackSeq s ∧ data.length ≤ 64 ∧
      c = .memDataReceived seq ackSeq ([tag, status, x, y] ++ data) ∧ tagIndex tag = i.val ∧
      tagGeneration tag = (s.tracker.tags.get i).generation ∧ time = s.now ∧
      ((status ≠ 0 ∧ result = .error .hostError) ∨
        (status = 0 ∧ data.length ≠ q.length ∧ result = .error .completionMismatch) ∨
        (status = 0 ∧ data.length = q.length ∧ result = .data data)))

/-! ### Lines -/

/-- A line after closing and freeing of the lines whose binding has the property (R36, R38). -/
def quieted (p : Binding → Bool) : Line → Line
  | .free => .free
  | .fetching b f readStart stale tag => .fetching b f readStart (stale || p b) tag
  | .valid b f fetched consume => if p b then .free else .valid b f fetched consume
  | .error b f tag => if p b then .free else .error b f tag
  | .gathering b data v deadline => if p b then .closed b data v else .gathering b data v deadline
  | .closed b data v => .closed b data v

/-- A line after closing alone of the lines whose binding has the property (R36). -/
def shut (p : Binding → Bool) : Line → Line
  | .gathering b data v deadline => if p b then .closed b data v else .gathering b data v deadline
  | l => l

/-- The lines closed have joined the tail of the closed-order list, in some order (R36; log 7). -/
def ClosedAppended (p : Binding → Bool) (s t : State) : Prop :=
  ∃ order : List LineIx,
    order.Perm (allLines.filter (fun j => (lineAt j s).isGathering && (lineAt j s).binding.any p)) ∧
      t.staging.closedOrder = s.staging.closedOrder ++ order

/-- The GATHERING lines with the property are closed and the read lines with it are freed (R36, R38, R24). -/
def LinesQuieted (p : Binding → Bool) (s t : State) : Prop :=
  (∀ j, lineAt j t = quieted p (lineAt j s)) ∧ ClosedAppended p s t ∧
    t.staging.lru = s.staging.lru.filter (fun j => !(lineAt j s).binding.any p)

/-- The GATHERING lines with the property are closed, and no other line changes (R36). -/
def LinesShut (p : Binding → Bool) (s t : State) : Prop :=
  (∀ j, lineAt j t = shut p (lineAt j s)) ∧ ClosedAppended p s t ∧ t.staging.lru = s.staging.lru

/-- The binding is the slot's. -/
def boundTo (slot : Slot) (b : Binding) : Bool := b.slot == slot

/-- The binding is the slot's for the host line. -/
def boundToLine (slot : Slot) (h : HostAddr) (b : Binding) : Bool := b.slot == slot && b.hostLine == h

/-- The buffering settings are the same in both states (R45). -/
def SettingsKept (s t : State) : Prop :=
  t.staging.buffering = s.staging.buffering ∧ t.staging.readAhead = s.staging.readAhead ∧
    t.staging.gatherIdle = s.staging.gatherIdle

/-- The global drain and the map barrier in progress are the same in both states. -/
def MarksKept (s t : State) : Prop :=
  t.staging.globalDrain = s.staging.globalDrain ∧ t.staging.mapBarrier = s.staging.mapBarrier

/-- The settings, the global drain, the map barrier and every slot's drains are the same in both states. -/
def DrainsKept (s t : State) : Prop :=
  SettingsKept s t ∧ MarksKept s t ∧ t.staging.slotDrains = s.staging.slotDrains

/-- A global drain has been begun over the closed-order list of t and the posted-write queue (R40). -/
def DrainMarked (t : State) : Prop :=
  t.staging.globalDrain =
    match t.staging.closedOrder.getLast? with
    | some i => some (.line i)
    | none => t.tracker.posted.getLast?.map (fun p => .posted p.number)

/-- The command is complete if the global drain was complete at its start, else it waits for it (R17, R46). -/
def AwaitsDrain (e : CommandEntry) (rest : List CommandEntry) (s t : State) : Prop :=
  (t.staging.globalDrain = none → Replied e rest .ok [] s t) ∧
    (t.staging.globalDrain ≠ none → Waits e rest .drain s t)

/-- A map barrier over the lines with the property has been begun, and the command is complete or waits for it (R14, R41). -/
def AwaitsBarrier (p : Binding → Bool) (e : CommandEntry) (rest : List CommandEntry) (s t : State) : Prop :=
  match (t.staging.closedOrder.filter (fun j => (lineAt j t).binding.any p)).getLast? with
  | none => t.staging.mapBarrier = none ∧ Replied e rest .ok [] s t
  | some j => t.staging.mapBarrier = some (.line j) ∧ Waits e rest .barrier s t

/-- The bindings that a map command over `count` entries from `first` on covers (R14). -/
def coveredBy (m : PageMap) (first count : Nat) (b : Binding) : Bool :=
  decide (first ≤ b.mapIndex.val ∧ b.mapIndex.val < first + count) && b.epoch == (m.entries.get b.mapIndex).epoch

/-! ### Map commands that wait for the episode -/

/-- The command that waited is complete: its reply OK stands at the tail of the reply queue (R158). -/
def Finished (x : Executing) (u t : State) : Prop :=
  t.command =
    { u.command with executing := none, replies := u.command.replies ++ [.reply x.tag x.code .ok []] }

/-- The command that waited for the episode waits for w now (R158). -/
def WaitsNow (x : Executing) (w : Wait) (u t : State) : Prop :=
  t.command = { u.command with executing := some { x with wait := w } }

/-- A map barrier over the lines with the property has been begun, and the command that waited is complete or waits for it
(R14, R41). -/
def BarrierBegun (p : Binding → Bool) (x : Executing) (u t : State) : Prop :=
  match (t.staging.closedOrder.filter (fun j => (lineAt j t).binding.any p)).getLast? with
  | none => t.staging.mapBarrier = none ∧ Finished x u t
  | some j => t.staging.mapBarrier = some (.line j) ∧ WaitsNow x .barrier u t

/-- What the start of a map command does to the state u, the command being the executing one (R11, R13, R16). -/
def MapStarted (x : Executing) (c : Command) (u t : State) : Prop :=
  OnlyChanges [.pageMap, .staging, .command] u t ∧ SettingsKept u t ∧ t.staging.slotDrains = u.staging.slotDrains ∧
    match c with
    | .mapWrite first records =>
      t.pageMap.on = u.pageMap.on ∧ t.pageMap.base = u.pageMap.base ∧
        (∀ i, t.pageMap.entries.get i =
          if first ≤ i.val then
            match records[i.val - first]? with
            | some f => ⟨f.valid, f.hostFrame, f.access, f.slots, f.mode, (u.pageMap.entries.get i).epoch + 1⟩
            | none => u.pageMap.entries.get i
          else u.pageMap.entries.get i) ∧
        LinesQuieted (coveredBy u.pageMap first records.length) u t ∧
        t.staging.globalDrain = u.staging.globalDrain ∧ BarrierBegun (coveredBy u.pageMap first records.length) x u t
    | .mapInvalidate first count =>
      t.pageMap.on = u.pageMap.on ∧ t.pageMap.base = u.pageMap.base ∧
        (∀ i, t.pageMap.entries.get i =
          if first ≤ i.val ∧ i.val < first + count then
            { u.pageMap.entries.get i with valid := false, epoch := (u.pageMap.entries.get i).epoch + 1 }
          else u.pageMap.entries.get i) ∧
        LinesQuieted (coveredBy u.pageMap first count) u t ∧
        t.staging.globalDrain = u.staging.globalDrain ∧ BarrierBegun (coveredBy u.pageMap first count) x u t
    | .windowSet on base =>
      t.pageMap = { u.pageMap with on := on, base := if on = true then base else u.pageMap.base } ∧
        LinesQuieted (fun _ => true) u t ∧ t.staging.mapBarrier = u.staging.mapBarrier ∧ DrainMarked t ∧
        (t.staging.globalDrain = none → Finished x u t) ∧ (t.staging.globalDrain ≠ none → WaitsNow x .drain u t)
    | _ => False

/-- The command c is one of the three that wait for the episode (R10). -/
def IsMapCommand (c : Command) : Prop :=
  (∃ first records, c = .mapWrite first records) ∨ (∃ first count, c = .mapInvalidate first count) ∨
    ∃ on base, c = .windowSet on base

/-- Steps in which the episode returns to NONE: withdrawal before the EXCL_BEGIN is queued, a release in OPEN with room for
the EXCL_END, the EXCL_END taking its reserved place, the limit before the EXCL_BEGIN is queued, and an EXCL_BEGIN that is
answered with an error or times out in REQUESTED (R102, R103, R106, R107). -/
def EndsEpisode (i : Instr) (ep : Episode) (s : State) : Prop :=
  (i = .lockRelease ep.slot ∧ ep.state = .requested ∧ ep.beginQueued = false) ∨
    (i = .lockRelease ep.slot ∧ ep.state = .opened ∧ ep.endPending = false ∧ s.tracker.posted.length < 16) ∨
    (i = .exclEndPlaced ∧ ep.endPending = true ∧ s.tracker.posted.length < 16) ∨
    (i = .episodeLimitExpiry ∧ ep.state = .requested ∧ ep.beginQueued = false ∧ ∃ d, ep.limit = some d) ∨
    ∃ (k : TagIx) (q : Request) (d time : Time) (e : FaultKind), ep.state = .requested ∧
      ep.beginTag = some ⟨k, (s.tracker.tags.get k).generation⟩ ∧ (s.tracker.tags.get k).state = .outstanding q d ∧
      q.purpose = .exclBegin ∧ TagEnds i k q d (.error e) time s

/-! ### Card reads -/

/-- The read lines that a read of the slot and host line which misses gives up: for a buffered one its VALID line read
past and its direct lines, for a direct one every read line of the slot for the host line (R27 rows 2 and 5, R31 row 4). -/
def givenUp (direct : Bool) (slot : Slot) (h : HostAddr) (r : State) (l : Line) : Bool :=
  if direct then l.ofSlotLine slot h else directFor slot h l || validFor false slot h r l

/-- The state r after its read lines with the property have been freed (R38). -/
def gaveUp (p : Line → Bool) (r : State) : State :=
  r.setStaging
    { r.staging with
      lines := r.staging.lines.map (fun l => if p l then l.freed else l)
      lru := r.staging.lru.filter (fun j => !p (lineAt j r)) }

/-- A read of n bytes misses: no line serves it, none is being fetched for it and none is in ERROR. A VALID line of a
buffered read may stand there, read past already. `f` and `readStart` are those of the line that it would bind (R27, R28,
R31). -/
def Misses (direct : Bool) (tr : Translation) (n : Nat) (f : FetchSpan) (readStart : Option Nat) (r : State) : Prop :=
  (direct = false ∧ tr.mode = .buffered ∧ r.staging.buffering = true ∧ f = ⟨false, tr.offset / 4 * 4, 64⟩ ∧
      readStart = none ∧ findLine (fetchingBuffered tr.slot tr.hostLine) r = none ∧
      findLine (errorBuffered tr.slot tr.hostLine) r = none ∧
      (∀ j b g fetched c, lineAt j r = .valid b g fetched c → validFor false tr.slot tr.hostLine r (lineAt j r) = true →
        tr.offset < c) ∧
      ∀ j k, validFor false tr.slot tr.hostLine r (lineAt j r) = true →
        validFor false tr.slot tr.hostLine r (lineAt k r) = true → j = k) ∨
    (direct = true ∧ (tr.mode = .direct ∨ r.staging.buffering = false) ∧
      f = ⟨true, tr.offset / 4 * 4, (tr.offset + n + 3) / 4 * 4⟩ ∧ readStart = some tr.offset ∧
      findLine (directHit tr n r) r = none ∧ findLine (directFetching tr n) r = none ∧
      findLine (errorFor tr.slot tr.hostLine) r = none)

/-- The state u after the VALID or ERROR line j has been reclaimed (R25). -/
def reclaimed (j : LineIx) (u : State) : State :=
  u.setStaging
    { u.staging with lines := u.staging.lines.set j .free, lru := u.staging.lru.filter (· ≠ j) }

/-- A miss of the slot in the state u takes the line i, with v the state after any reclaim: the lowest FREE line; the least
recent reclaimable line of all, when none is FREE; and first, when the slot holds two read lines, its own least recent one
makes room (R25 steps 2 to 4). -/
def TakesLine (slot : Slot) (i : LineIx) (u v : State) : Prop :=
  (readLineCount slot u < 2 ∧ findLine Line.isFree u = some i ∧ v = u) ∨
    (readLineCount slot u < 2 ∧ findLine Line.isFree u = none ∧ (∃ rest, u.staging.lru = i :: rest) ∧ v = reclaimed i u) ∨
    (2 ≤ readLineCount slot u ∧ ∃ j, u.staging.lru.find? (fun k => (lineAt k u).ofSlot slot) = some j ∧
      v = reclaimed j u ∧ findLine Line.isFree v = some i)

/-- A miss of the slot in the state u can have no tag or no line (R25 steps 1, 2 and 5). -/
def NoLineOrTag (slot : Slot) (u : State) : Prop :=
  lowestFreeTag u = none ∨
    (2 ≤ readLineCount slot u ∧ u.staging.lru.find? (fun k => (lineAt k u).ofSlot slot) = none) ∨
    (readLineCount slot u < 2 ∧ findLine Line.isFree u = none ∧ u.staging.lru = [])

/-- A line answers a read of n bytes and is given up: the VALID direct line of exactly this read, with its bytes; else, where
no line serves the read or is being fetched for it, an ERROR line, with ABORT (R27 row 4, R31 rows 1 and 3). -/
def LineAnswers (tr : Translation) (n : Nat) (i : LineIx) (ans : Answer) (r : State) : Prop :=
  ((tr.mode = .direct ∨ r.staging.buffering = false) ∧ findLine (directHit tr n r) r = some i ∧
      ∃ b f fetched c, lineAt i r = .valid b f fetched c ∧
        ans = .complete ((fetched.drop (tr.offset - f.start)).take n)) ∨
    (tr.mode = .buffered ∧ r.staging.buffering = true ∧ findLine (validFor false tr.slot tr.hostLine r) r = none ∧
      findLine (fetchingBuffered tr.slot tr.hostLine) r = none ∧
      findLine (errorBuffered tr.slot tr.hostLine) r = some i ∧ ans = .abort) ∨
    ((tr.mode = .direct ∨ r.staging.buffering = false) ∧ findLine (directHit tr n r) r = none ∧
      findLine (directFetching tr n) r = none ∧ findLine (errorFor tr.slot tr.hostLine) r = some i ∧ ans = .abort)

/-- No line serves a read of n bytes, and one is being fetched for it (R27 row 3, R31 row 2). -/
def AwaitsFetch (tr : Translation) (n : Nat) (r : State) : Prop :=
  (tr.mode = .buffered ∧ r.staging.buffering = true ∧ findLine (validFor false tr.slot tr.hostLine r) r = none ∧
      findLine (fetchingBuffered tr.slot tr.hostLine) r ≠ none) ∨
    ((tr.mode = .direct ∨ r.staging.buffering = false) ∧ findLine (directHit tr n r) r = none ∧
      findLine (directFetching tr n) r ≠ none)

/-- After a hit of the slot in the host line h that leaves the state u and ConsumePointer at `next`, one of the conditions of
read-ahead fails (R30). -/
def NoReadAhead (slot : Slot) (h : HostAddr) (next : Nat) (u : State) : Prop :=
  u.staging.readAhead = false ∨ next < 32 ∨ h.toNat % 16384 = 16320 ∨ 2 ≤ readLineCount slot u ∨
    findLine Line.isFree u = none ∨ lowestFreeTag u = none ∨ untransmitted slot u = true ∨
    ∃ l, (lineAt l u).isRead = true ∧ (lineAt l u).ofSlotLine slot (h + 64) = true ∧ (lineAt l u).isStale = false

/-! ### Card writes -/

/-- A write line of the slot for the host line stands in the state u: CLOSED, once the slot's GATHERING line is closed (R33
step 4). -/
def WriteLineStands (slot : Slot) (h : HostAddr) (u : State) : Prop :=
  ∃ j, (lineAt j u).isWrite = true ∧ (lineAt j u).ofSlotLine slot h = true

/-- A new GATHERING line takes the line i in the state u: the lowest FREE line, or, when none is FREE, the least recent
reclaimable one (R25 steps 3 and 4). -/
def TakesWriteLine (i : LineIx) (u : State) : Prop :=
  findLine Line.isFree u = some i ∨ (findLine Line.isFree u = none ∧ ∃ rest, u.staging.lru = i :: rest)

/-- No line can be had for a new GATHERING line in the state u (R25 step 5). -/
def NoWriteLine (u : State) : Prop := findLine Line.isFree u = none ∧ u.staging.lru = []

/-- A write of the slot must wait behind a closed line, or one that this write closes, or for room in the posted-write queue
that no EXCL_END waits for (R34 step 4, R63, R105 row 4). -/
def WriteMustWait (slot : Slot) (r : State) : Prop :=
  r.staging.closedOrder ≠ [] ∨ (∃ j, (lineAt j r).isGathering = true ∧ (lineAt j r).ofSlot slot = true) ∨
    16 ≤ r.tracker.posted.length ∨ endWaiting r = true

/-! ### Locked accesses -/

/-- What every locked access of the slot does to the Staging Unit and the slots' records (R101, R43). -/
def LockedEffects (slot : Slot) (r t : State) : Prop :=
  LinesQuieted (boundTo slot) r t ∧ DrainsKept r t ∧ t.bus.slots = r.bus.slots

/-- No HeldRead stands in the way of the locked read of n bytes: none is present, or one of another read that has its result
(R104 rows 6 and 7). -/
def HeldReadIsPast (e : Episode) (tr : Translation) (n : Nat) : Prop :=
  ∀ h, e.heldRead = some h →
    h.result ≠ .waiting ∧ ¬ (h.hostAddress = tr.hostAddress ∧ h.offset = tr.offset ∧ h.length = n)

/-! ### Events -/

/-- An event of the slot has been raised: its lines are quieted, its drain begun, and, where that drain was complete at its
start, the event is sent or PENDING and drained (R128, R129). -/
def Raised (slot : Slot) (s t : State) : Prop :=
  LinesQuieted (boundTo slot) s t ∧ SettingsKept s t ∧ MarksKept s t ∧
    (∀ x, t.staging.slotDrains.get x =
      if x = slot then
        { s.staging.slotDrains.get x with event := if untransmitted slot s = true then .running else .idle }
      else s.staging.slotDrains.get x) ∧
    (∀ x, eventAt x t =
      if x = slot then
        { eventAt x s with
          state :=
            if untransmitted slot s = true then .pending false
            else if s.uplink.linkState = .up then .sent false else .pending true }
      else eventAt x s) ∧
    t.events.offered =
      s.events.offered ++
        (if untransmitted slot s = true ∨ s.uplink.linkState ≠ .up then []
        else [⟨slot, (eventAt slot s).seq, (eventAt slot s).resend⟩])

/-- The conditions of a raise that the record, the slot and the level of its line give (R128). -/
def Raisable (slot : Slot) (s : State) : Prop :=
  (eventAt slot s).state = .idle ∧ (eventAt slot s).masked = false ∧ (s.bus.slots.get slot).enabled = true ∧
    (s.bus.slots.get slot).resetDeadline = none ∧ s.events.lines.get slot = true

/-- An EVENT_ACK of this number acknowledges the slot's event: SENT, the same number, and Resend yes (R132). -/
def Acknowledges (slot : Slot) (n : BitVec 8) (s : State) : Prop :=
  (∃ d, (eventAt slot s).state = .sent d) ∧ (eventAt slot s).seq = n ∧ (eventAt slot s).resend = true

/-- What an EVENT_ACK does to the events: one that acknowledges takes the record to IDLE with the next number, withdraws its
offered frame, and raises the next event if the line calls for it; any other changes nothing (R132, R133). -/
def AckDecided (slot : Slot) (n : BitVec 8) (s t : State) : Prop :=
  (Acknowledges slot n s →
    ∃ u : State,
      u =
        s.setEvents
          { s.events with
            records :=
              s.events.records.set slot
                { eventAt slot s with state := .idle, seq := (eventAt slot s).seq + 1, resend := false }
            offered := s.events.offered.filter (fun f => f.slot ≠ slot) } ∧
      (Raisable slot u → Raised slot u t) ∧ (¬ Raisable slot u → t.events = u.events ∧ t.staging = s.staging)) ∧
    (¬ Acknowledges slot n s → t.events = s.events ∧ t.staging = s.staging)

/-- The event's own drain has no requester any more; a running one goes on without (R130). -/
def EventDrainDropped (slot : Slot) (s t : State) : Prop :=
  ∀ x, t.staging.slotDrains.get x =
    if x = slot then
      { s.staging.slotDrains.get x with
        event := .idle
        unowned :=
          if (s.staging.slotDrains.get x).event = .running then .running else (s.staging.slotDrains.get x).unowned }
    else s.staging.slotDrains.get x

/-- The slot's event has been ended without acknowledgement: IDLE, its number advanced only if it has been transmitted
(R130, R135). -/
def EventEnded (slot : Slot) (s t : State) : Prop :=
  ∀ x, eventAt x t =
    if x = slot then
      { eventAt x s with
        state := .idle
        seq := if (eventAt x s).resend then (eventAt x s).seq + 1 else (eventAt x s).seq
        resend := false }
    else eventAt x s

/-- What disable and the beginning of a slot reset do outside the Slot Bus Controller (R44, R135). -/
def SlotSilenced (slot : Slot) (s t : State) : Prop :=
  LinesQuieted (boundTo slot) s t ∧ SettingsKept s t ∧ MarksKept s t ∧ EventDrainDropped slot s t ∧
    EventEnded slot s t ∧ t.events.offered = s.events.offered.filter (fun f => f.slot ≠ slot) ∧
    t.events.lines = s.events.lines

/-! ### Faults -/

/-- The report has been taken by the Fault Unit with this Fenced: the summary of its slot, and admission or the drop (R142,
R144, R145, R147). -/
def FaultTaken (r : FaultReport) (fenced : Bool) (s t : State) : Prop :=
  t.faults =
    { queue :=
        if s.faults.queue.length < 16 then
          s.faults.queue ++ [{ seq := s.faults.nextSeq, report := r, fenced := fenced, lostBefore := s.faults.dropped }]
        else s.faults.queue
      dropped := if s.faults.queue.length < 16 then 0 else satInc s.faults.dropped
      nextSeq := if s.faults.queue.length < 16 then s.faults.nextSeq + 1 else s.faults.nextSeq
      summaries :=
        match r.slot with
        | some slot =>
          s.faults.summaries.set slot (s.faults.summaries.get slot ||| r.kind.summaryBit)
        | none => s.faults.summaries }

/-- A failed LINE_FETCH or LOCKED_READ of the tag i has been reported, and a good one has not (R59). -/
def ResultReported (i : TagIx) (q : Request) (result : FetchResult) (s t : State) : Prop :=
  match result with
  | .data _ => t.faults = s.faults
  | .error k =>
    FaultTaken
      { kind := k, slot := some q.slot, hostAddress := some q.hostAddress,
        tag := some (tagByte ⟨i, (s.tracker.tags.get i).generation⟩) } false s t

/-- The slot has been fenced, and nothing else of its record or of another slot's changed (R89, R44). -/
def SlotFenced (slot : Slot) (s t : State) : Prop :=
  t.bus.slots = s.bus.slots.set slot { s.bus.slots.get slot with fenced := true } ∧ LinesQuieted (boundTo slot) s t ∧
    SettingsKept s t ∧ MarksKept s t

/-! ### The slot bus -/

/-- The slot owns the bus, none of its presentations waits for an answer, and it presents a transaction that the bridge
claims; r is the state after the report of R73 to the Lock Unit, which a lock release makes as well (R73, R76). -/
def Presents (slot : Slot) (a : CardAddr) (x : Transfer) (lock : Bool) (s r : State) : Prop :=
  s.bus.owner = .slot slot ∧ (∀ b n, s.bus.phase ≠ .awaiting b n) ∧ x.wellFormed = true ∧
    (if lock = true then r = s else exec (.lockRelease slot) s = .next r) ∧ inWindow r.pageMap a = true

/-- The window gates let the slot pass (R79). -/
def PassesGates (slot : Slot) (r : State) : Prop :=
  (r.bus.slots.get slot).enabled = true ∧ (r.bus.slots.get slot).resetDeadline = none ∧
    (r.bus.slots.get slot).fenced = false ∧ r.uplink.linkState = .up

/-- The access passes the gates and is translated (R6, R8). -/
def Translates (slot : Slot) (a : CardAddr) (x : Transfer) (lock : Bool) (tr : Translation) (s r : State) : Prop :=
  Presents slot a x lock s r ∧ PassesGates slot r ∧ translate r.pageMap slot a (writes x) lock = .passed tr

/-- The card has its answer for the bytes in the 64-byte block of a: the response driven and what becomes of the ownership
(R75, R77, R83). -/
def BusAnswered (slot : Slot) (a : CardAddr) (x : Transfer) (ans : Answer) (r t : State) : Prop :=
  t.bus.pointer = r.bus.pointer ∧ t.bus.masterLock = r.bus.masterLock ∧ t.bus.deadline = none ∧
    match ans with
    | .complete data =>
      if blockLength a x < x.length then
        t.bus.owner = .slot slot ∧ t.bus.phase = .continuing ∧ t.bus.answer = some ⟨.partly (blockLength a x), data⟩
      else t.bus.owner = .none ∧ t.bus.phase = .granted ∧ t.bus.answer = some ⟨.complete, data⟩
    | .retry => t.bus.owner = .none ∧ t.bus.phase = .granted ∧ t.bus.answer = some ⟨.retry, []⟩
    | .abort => t.bus.owner = .none ∧ t.bus.phase = .granted ∧ t.bus.answer = some ⟨.abort, []⟩

/-- The Slot Bus Controller after the slot's ownership has ended, if it was the owner (R83). -/
def ownershipEnded (slot : Slot) (b : SlotBus) : SlotBus :=
  if b.owner = .slot slot then { b with owner := .none, phase := .granted, deadline := none } else b

/-- The Slot Bus Controller after the bridge master has dropped its lock flag and, if it was the owner, released the bus (R94,
R110). -/
def masterReleased (b : SlotBus) : SlotBus :=
  if b.owner = .master then { b with owner := .none, masterLock := false, deadline := none }
  else { b with masterLock := false }

/-- The bus after a transaction of the bridge master has ended: kept under a HELD host lock, else released (R83). -/
def masterDone (s : State) : SlotBus :=
  if lockHeld s = true then { s.bus with deadline := none }
  else { s.bus with owner := .none, masterLock := false, deadline := none }

/-! ### Tags, posted entries and the episode -/

/-- The tracker after the FREE tag i has been allocated for the request (R50). -/
def allocated (i : TagIx) (q : Request) (t : Tracker) : Tracker :=
  { t with
    tags := t.tags.set i ⟨.waiting q, (t.tags.get i).generation⟩
    requestQueue := t.requestQueue ++ [i] }

/-- The tracker after the tag i has retired (R51). -/
def tagRetired (i : TagIx) (t : Tracker) : Tracker :=
  { t with tags := t.tags.set i ⟨.free, (t.tags.get i).generation + 1⟩ }

/-- The tracker after an entry has joined the posted-write queue (R63, R64, R67). -/
def joined (slot : Slot) (kind : PostedKind) (h : HostAddr) (locked : Bool) (t : Tracker) : Tracker :=
  { t with
    posted := t.posted ++ [⟨slot, kind, h, locked, t.nextPosted⟩]
    nextPosted := t.nextPosted + 1
    writeHold := t.writeHold || decide (t.holdHigh ≤ t.posted.length + 1) }

/-- No map command waits for the episode (R10). -/
def NoneWaitsForEpisode (s : State) : Prop := ∀ x, s.command.executing = some x → x.wait ≠ .episode

/-! ### Invariants -/

/-- The bounded collections within their bounds: the posted-write queue (R62), the fault queue (R144), the replay buffer
(R175), the command queue (R152). -/
def WithinBounds (s : State) : Prop :=
  s.tracker.posted.length ≤ 16 ∧ s.faults.queue.length ≤ 16 ∧ s.uplink.replay.length ≤ 16 ∧ s.command.queue.length ≤ 8

/-- The reply queue has room for every frame that can still come without an arrival answer or an ordered command: one for the
executing command, for each slot reset in progress, for the host lock and for a bridge reset in progress (R153). It follows
that the reply queue holds at most 16 frames. -/
def ReplyRoom (s : State) : Prop :=
  s.command.replies.length + (if s.command.executing.isSome then 1 else 0) +
      (allSlots.filter (fun x => (s.bus.slots.get x).inReset)).length + (if s.locks.hostLock = .free then 0 else 1) +
      (if s.command.resetting then 1 else 0) ≤ 16

/-- Each slot has at most two read lines, stale ones counted, and at most one GATHERING line (R22). -/
def WithinQuotas (s : State) : Prop :=
  ∀ slot : Slot, readLineCount slot s ≤ 2 ∧
    (s.staging.lines.items.filter (fun l => l.isGathering && l.ofSlot slot)).length ≤ 1

/-- A card that may claim the presentation on the bus is out of reset (R74, R123). -/
def ClaimantsEligible (s : State) : Prop := ∀ x ∈ s.bus.claimants, eligible x s = true

/-- The tag is busy with the request (R49). -/
def BusyWith (k : TagIx) (q : Request) (s : State) : Prop :=
  (s.tracker.tags.get k).state = .waiting q ∨ ∃ d, (s.tracker.tags.get k).state = .outstanding q d

/-- Each FETCHING line, stale or not, has a busy tag of its own that asks for its bytes, and each busy tag with Purpose
LINE_FETCH has its FETCHING line (R20, R28, R58). -/
def FetchesTied (s : State) : Prop :=
  (∀ (i : LineIx) (b : Binding) (f : FetchSpan) (readStart : Option Nat) (stale : Bool) (g : TagRef),
    lineAt i s = .fetching b f readStart stale g →
    (s.tracker.tags.get g.index).generation = g.generation ∧
      BusyWith g.index
        { purpose := .lineFetch i, hostAddress := b.hostLine + BitVec.ofNat 48 f.start, length := f.stop - f.start,
          slot := b.slot } s) ∧
    ∀ (k : TagIx) (q : Request) (i : LineIx), BusyWith k q s → q.purpose = .lineFetch i →
      ∃ b f readStart stale, lineAt i s = .fetching b f readStart stale ⟨k, (s.tracker.tags.get k).generation⟩

/-- Every line but a CLOSED one and a stale FETCHING one is current (R9). -/
def LinesCurrent (s : State) : Prop :=
  ∀ (i : LineIx) (b : Binding), (lineAt i s).binding = some b → (lineAt i s).isClosed = false →
    (lineAt i s).isStale = false → current b s = true

/-- No two non-stale read lines, and no two write lines, are bound to the same slot and host line (R23). -/
def LinesDistinct (s : State) : Prop :=
  ∀ (i j : LineIx) (slot : Slot) (h : HostAddr), i ≠ j → (lineAt i s).ofSlotLine slot h = true →
    (lineAt j s).ofSlotLine slot h = true →
    ((lineAt i s).isRead = true → (lineAt j s).isRead = true → (lineAt i s).isStale = true ∨ (lineAt j s).isStale = true) ∧
      ((lineAt i s).isWrite = true → (lineAt j s).isWrite = false)

/-- Numbers that count up by one along a list and go on with `next` after its end. -/
def CountsUpTo {w : Nat} (next : BitVec w) : List (BitVec w) → Prop
  | [] => True
  | [x] => x + 1 = next
  | x :: y :: rest => x + 1 = y ∧ CountsUpTo next (y :: rest)

/-- The PostedNumbers of the posted-write queue are consecutive and the next one follows them (R64). -/
def PostedNumbered (s : State) : Prop := CountsUpTo s.tracker.nextPosted (s.tracker.posted.map (·.number))

/-- The FaultSeq values of the fault queue are consecutive and the counter follows them (R144, R145). -/
def FaultsNumbered (s : State) : Prop := CountsUpTo s.faults.nextSeq (s.faults.queue.map (·.seq))

/-- The Seq values of the replay buffer are consecutive and NextTx follows them (R175); while the link is not UP the buffer is
empty (R170, R171). -/
def ReplayNumbered (s : State) : Prop :=
  CountsUpTo s.uplink.nextTx (s.uplink.replay.map (·.seq)) ∧ (s.uplink.linkState ≠ .up → s.uplink.replay = [])

/-- While the host lock is HELD the episode is NONE and the bridge master owns the bus (R100, R95). -/
def LockExclusion (s : State) : Prop :=
  lockHeld s = true → s.locks.episode = none ∧ s.bus.owner = .master

/-- The request queue holds each WAITING tag once and no other tag (R52). -/
def RequestQueued (s : State) : Prop :=
  s.tracker.requestQueue.Nodup ∧
    ∀ i : TagIx, i ∈ s.tracker.requestQueue ↔ ∃ r, (s.tracker.tags.get i).state = .waiting r

/-- The closed-order list holds each CLOSED line once and no other (R36); the LRU order holds each VALID or ERROR line once and
no other (R24). -/
def LinesOrdered (s : State) : Prop :=
  s.staging.closedOrder.Nodup ∧ (∀ i : LineIx, i ∈ s.staging.closedOrder ↔ (lineAt i s).isClosed = true) ∧
    s.staging.lru.Nodup ∧ ∀ i : LineIx, i ∈ s.staging.lru ↔ (lineAt i s).reclaimable = true

/-- While the link is not UP nothing is on its way to the host and nothing of the host's is in progress (R70, R110, R136,
R166, R171). -/
def QuietUnlessUp (s : State) : Prop :=
  s.uplink.linkState ≠ .up →
    s.uplink.replay = [] ∧ s.uplink.requestCredits = 0 ∧ s.uplink.postedCredits = 0 ∧ s.tracker.posted = [] ∧
      s.tracker.requestQueue = [] ∧ (∀ i : TagIx, (s.tracker.tags.get i).state = .free) ∧
      (∀ i : LineIx, (lineAt i s).isWrite = false) ∧ s.locks.episode = none ∧ s.locks.hostLock = .free ∧
      s.command.queue = [] ∧ s.command.executing = none

/-- The offered EVENT frames are, each once, those of the records that are SENT with Frame OFFERED, and carry their EventSeq
and Resend (R126, R129, R181). -/
def EventsOffered (s : State) : Prop :=
  (s.events.offered.map (·.slot)).Nodup ∧
    (∀ slot : Slot, (∃ f ∈ s.events.offered, f.slot = slot) ↔ (eventAt slot s).state = .sent false) ∧
    ∀ f ∈ s.events.offered, f.seq = (eventAt f.slot s).seq ∧ f.resend = (eventAt f.slot s).resend

/-- The marks of write hold and the settings lie in their ranges, and Base is a multiple of 8 MiB (R67, R45, R160, R1). -/
def SettingsInRange (s : State) : Prop :=
  2 ≤ s.tracker.holdHigh ∧ s.tracker.holdHigh ≤ 16 ∧ s.tracker.holdLow < s.tracker.holdHigh ∧
    1 ≤ s.tracker.readTimeout ∧ s.tracker.readTimeout ≤ 250 ∧ 1 ≤ s.staging.gatherIdle ∧ s.staging.gatherIdle ≤ 32 ∧
    5 ≤ s.locks.episodeLimit ∧ s.locks.episodeLimit ≤ 1000 ∧ 1 ≤ s.locks.lockLimit ∧ s.locks.lockLimit ≤ 100 ∧
    1 ≤ s.master.retryLimit ∧ s.master.retryLimit ≤ 4096 ∧ s.pageMap.base.toNat % 0x800000 = 0

end Sys2Proof
end

