-- ==== Sys2Proof/Certificates/Slice0/Obligations.lean ====
section
/-! DEFINITION. The statements for the provers. -/

open Sys2Proof Sys2Proof.Machine

/-! ### The step, reset and the invariants -/

/-- A step takes the command at the front of the queue and is exec of it on the state with the queue's rest. The model's own
choices here: the queue of commands (log 1). -/
def Obligations.StepRunsFrontCommand : Prop :=
  ∀ (c : Instr) (rest : List Instr) (s : State), s.pending = c :: rest → step s = exec c (s.setPending rest)

/-- The values that the spec gives after power-on reset, block by block (R1, R19, R48, R72, R82, R85, R95, R100, R115, R126,
R150, R152, R167). -/
def Obligations.ResetValues : Prop :=
  let s := State.reset
  (s.pageMap.on = false ∧ s.pageMap.base = 0 ∧
    ∀ i, s.pageMap.entries.get i = ⟨false, 0, .none, 0, .buffered, 0⟩) ∧
  ((∀ i, lineAt i s = .free) ∧ s.staging.closedOrder = [] ∧ s.staging.lru = [] ∧ s.staging.buffering = true ∧
    s.staging.readAhead = false ∧ s.staging.gatherIdle = 4 ∧ (∀ i, s.staging.slotDrains.get i = SlotDrains.none) ∧
    s.staging.globalDrain = none ∧ s.staging.mapBarrier = none) ∧
  ((∀ i, s.tracker.tags.get i = ⟨.free, 0⟩) ∧ s.tracker.requestQueue = [] ∧ s.tracker.posted = [] ∧
    s.tracker.nextPosted = 0 ∧ s.tracker.writeHold = false ∧ s.tracker.holdHigh = 12 ∧ s.tracker.holdLow = 4 ∧
    s.tracker.readTimeout = 20) ∧
  ((∀ i, s.bus.slots.get i = ⟨false, false, none, true, 0, 0⟩) ∧ s.bus.owner = .none ∧ s.bus.pointer = 5 ∧
    s.bus.masterLock = false ∧ ∀ i, rstPin i s = true) ∧
  (s.locks.hostLock = .free ∧ s.locks.episode = none ∧ s.locks.abortNext = 0 ∧ s.locks.lockLimit = 5 ∧
    s.locks.episodeLimit = 50 ∧ s.master.access = none ∧ s.master.retryLimit = 256) ∧
  ((∀ i, eventAt i s = ⟨.idle, 0, false, false⟩) ∧ s.events.offered = []) ∧
  (s.faults.queue = [] ∧ s.faults.dropped = 0 ∧ s.faults.nextSeq = 0 ∧ ∀ i, s.faults.summaries.get i = 0) ∧
  (s.command.queue = [] ∧ s.command.executing = none ∧ s.command.resetting = false ∧ s.command.replies = []) ∧
  (s.uplink.linkState = .down ∧ s.uplink.linkEpoch = 0 ∧ s.uplink.trainingDeadline = none ∧ s.uplink.nextTx = 0 ∧
    s.uplink.nextRx = 0 ∧ s.uplink.nakSent = false ∧ s.uplink.unacknowledged = 0 ∧ s.uplink.ackDeadline = none ∧
    s.uplink.replay = [] ∧ s.uplink.replayNext = none ∧ s.uplink.replayDeadline = none ∧ s.uplink.replayCount = 0 ∧
    s.uplink.requestCredits = 0 ∧ s.uplink.postedCredits = 0 ∧ s.uplink.pendingCredits = 0 ∧
    s.uplink.creditsReturned = 0 ∧ s.uplink.classPointer = .request ∧ s.uplink.replySource = .events ∧
    s.uplink.crcErrors = 0 ∧ s.uplink.naksSent = 0 ∧ s.uplink.replays = 0 ∧ s.uplink.linkLosses = 0)

/-- Every invariant below holds right after power-on reset. -/
def Obligations.InvariantsHoldAtReset : Prop :=
  WithinBounds State.reset ∧ PostedNumbered State.reset ∧ FaultsNumbered State.reset ∧ ReplayNumbered State.reset ∧
    LockExclusion State.reset ∧ RequestQueued State.reset ∧ LinesOrdered State.reset ∧ QuietUnlessUp State.reset ∧
    EventsOffered State.reset ∧ SettingsInRange State.reset ∧ ReplyRoom State.reset ∧ WithinQuotas State.reset ∧
    ClaimantsEligible State.reset ∧ FetchesTied State.reset ∧ LinesCurrent State.reset ∧ LinesDistinct State.reset

/-- Every step keeps the posted-write, fault, replay and command queues within their bounds; the reply queue within its 16
frames, with room for every frame that can come without an arrival answer; each slot within its two read lines and one
GATHERING line, where the line orders hold; the settings in their ranges and Base a multiple of 8 MiB; and a card that may
claim the presentation on the bus out of reset. The model's own choices here: which cards may claim a presentation (log 31).
-/
def Obligations.StepKeepsBoundsAndRanges : Prop :=
  (∀ s t : State, WithinBounds s → step s = .next t → WithinBounds t) ∧
  (∀ s t : State, ReplyRoom s → step s = .next t → ReplyRoom t ∧ t.command.replies.length ≤ 16) ∧
  (∀ s t : State, LinesOrdered s → WithinQuotas s → step s = .next t → WithinQuotas t) ∧
  (∀ s t : State, SettingsInRange s → step s = .next t → SettingsInRange t) ∧
  ∀ s t : State, ClaimantsEligible s → step s = .next t → ClaimantsEligible t

/-- Every step keeps the PostedNumbers, the FaultSeq values and the Seq values of the replay buffer consecutive, and the
replay buffer empty while the link is not UP. -/
def Obligations.StepKeepsNumbersConsecutive : Prop :=
  (∀ s t : State, PostedNumbered s → step s = .next t → PostedNumbered t) ∧
    (∀ s t : State, FaultsNumbered s → step s = .next t → FaultsNumbered t) ∧
    ∀ s t : State, ReplayNumbered s → step s = .next t → ReplayNumbered t

/-- Every step keeps the host lock and the exclusive episode apart. -/
def Obligations.StepKeepsLockExclusion : Prop :=
  ∀ s t : State, LockExclusion s → step s = .next t → LockExclusion t

/-- Every step keeps the request queue the list of the WAITING tags; and, where the line orders hold, each FETCHING line
tied to the busy tag of its own that asks for its bytes, and each busy LINE_FETCH tag to its line. -/
def Obligations.StepKeepsRequestQueue : Prop :=
  (∀ s t : State, RequestQueued s → step s = .next t → RequestQueued t) ∧
  ∀ s t : State, LinesOrdered s → FetchesTied s → step s = .next t → FetchesTied t

/-- Every step keeps the closed-order list the list of the CLOSED lines and the LRU order that of the VALID and ERROR lines;
every line but a CLOSED or a stale one current; and, where that holds, no two non-stale read lines and no two write lines on
one slot's host line. -/
def Obligations.StepKeepsLineOrders : Prop :=
  (∀ s t : State, LinesOrdered s → step s = .next t → LinesOrdered t) ∧
  (∀ s t : State, LinesCurrent s → step s = .next t → LinesCurrent t) ∧
  ∀ s t : State, LinesCurrent s → LinesDistinct s → step s = .next t → LinesDistinct t

/-- Every step keeps the bridge quiet towards the host while the link is not UP. -/
def Obligations.StepKeepsQuietUnlessUp : Prop :=
  ∀ s t : State, QuietUnlessUp s → step s = .next t → QuietUnlessUp t

/-- Every step keeps the offered EVENT frames those of the records that are SENT with Frame OFFERED, each frame with the
EventSeq and the Resend of its record. -/
def Obligations.StepKeepsOfferedEvents : Prop :=
  ∀ s t : State, EventsOffered s → step s = .next t → EventsOffered t

/-! ### The link -/

/-- POWER_ON_RESET gives every block its power-on values; the INT levels and the present time go on (log 16). The model's
own choices here: the values at reset that the spec does not give and the INIT interval (log 16); time counts in units of
0.5 µs (log 3). -/
def Obligations.PowerOnResetsEveryBlock : Prop :=
  ∀ s : State, ∃ t, exec .powerOnReset s = .next t ∧ t.pageMap = PageMap.reset ∧ t.staging = Staging.reset ∧
    t.tracker = Tracker.reset ∧ t.bus = SlotBus.reset ∧ t.locks = LockUnit.reset ∧ t.master = BridgeMaster.reset ∧
    t.events = { EventUnit.reset with lines := s.events.lines } ∧ t.faults = FaultUnit.reset ∧
    t.command = CommandUnit.reset ∧ t.uplink = { Uplink.reset with initDeadline := some (s.now + 2000) } ∧
    t.now = s.now ∧ t.pending = s.pending

/-- A valid INIT in DOWN enters TRAINING: 20 ms of deadline, an INIT due at once and every 1 ms. A valid INIT with Heard yes
in TRAINING enters UP with its credits, and every drained PENDING event is offered in ascending slot order. The model's own
choices here: time counts in units of 0.5 µs (log 3); which link frames stay due (log 11); the values at reset that the spec
does not give and the INIT interval (log 16). -/
def Obligations.InitAdvancesLink : Prop :=
  (∀ (p : List Byte) (s : State), p.length = 12 → s.uplink.linkState = .down →
    136 ≤ u16 (p.getD 6 0) (p.getD 7 0) →
    ∃ t, exec (.initReceived p) s = .next t ∧ OnlyChanges [.uplink] s t ∧
      t.uplink =
        { s.uplink with
          linkState := .training
          trainingDeadline := some (s.now + 40000)
          initDeadline := some (s.now + 2000)
          initDue := true }) ∧
  ∀ (p : List Byte) (s : State), p.length = 12 → s.uplink.linkState = .training →
    136 ≤ u16 (p.getD 6 0) (p.getD 7 0) → (p.getD 0 0).getLsbD 0 = true →
    ∃ t, exec (.initReceived p) s = .next t ∧ OnlyChanges [.uplink, .events] s t ∧
      (t.uplink.linkState = .up ∧ t.uplink.linkEpoch = s.uplink.linkEpoch + 1 ∧ t.uplink.trainingDeadline = none ∧
        t.uplink.nextTx = 0 ∧ t.uplink.nextRx = 0 ∧ t.uplink.requestCredits = p.getD 9 0 ∧
        t.uplink.postedCredits = p.getD 10 0 ∧ t.uplink.pendingCredits = 0 ∧ t.uplink.creditsReturned = 0 ∧
        t.uplink.classPointer = .request ∧ t.uplink.replySource = .events ∧ t.uplink.replay = s.uplink.replay) ∧
      (∀ slot, eventAt slot t =
        if (eventAt slot s).state = .pending true then { eventAt slot s with state := .sent false } else eventAt slot s) ∧
      t.events.offered =
        s.events.offered ++
          (allSlots.filter (fun slot => (eventAt slot s).state = .pending true)).map
            (fun slot => ⟨slot, (eventAt slot s).seq, (eventAt slot s).resend⟩) ∧
      t.events.lines = s.events.lines

/-- A link loss, by any of its causes, the replay limit among them, at the Uplink Port, the Command Unit and the Fault Unit.
The model's own choices here: time counts in units of 0.5 µs (log 3); an expiry moves the present time to its deadline (log
4); which link frames stay due (log 11); an INIT received while UP needs no MaxPayload (log 15); the values at reset that
the spec does not give and the INIT interval (log 16). -/
def Obligations.LinkLossEndsTraffic : Prop :=
  ∀ (c : Instr) (training reset : Bool) (time : Time) (s : State), LossCause c training reset time s →
    s.uplink.linkState = .up → ∃ t, exec c s = .next t ∧ t.pageMap = s.pageMap ∧ t.now = time ∧ t.pending = s.pending ∧
      t.uplink =
        { s.uplink with
          linkState := if training then .training else .down
          trainingDeadline := if training then some (time + 40000) else none
          initDeadline := some (time + 2000)
          nakSent := false
          unacknowledged := 0
          ackDeadline := none
          replay := []
          replayNext := none
          replayDeadline := none
          replayCount := 0
          requestCredits := 0
          postedCredits := 0
          pendingCredits := 0
          linkLosses := satInc s.uplink.linkLosses
          resetDue := reset
          initDue := true
          nakDue := false
          ackDue := false } ∧
      t.command = { s.command with queue := [], executing := none, replies := [] } ∧
      (s.faults.queue.length < 16 →
        t.faults =
          { s.faults with
            queue := s.faults.queue ++
              [{ seq := s.faults.nextSeq
                 report :=
                   { kind := .discard
                     discard := some
                       { cause := .linkLoss, writes := writesHeld s, reads := busyTags s, commands := commandsHeld s } }
                 fenced := false
                 lostBefore := s.faults.dropped }]
            dropped := 0
            nextSeq := s.faults.nextSeq + 1 }) ∧
      (16 ≤ s.faults.queue.length → t.faults = { s.faults with dropped := satInc s.faults.dropped })

/-- A link loss, by any of its causes, at the Staging Unit, the Upstream Tracker, the Lock Unit, the Event Unit and the
bridge master: every drain is abandoned, the lines whose fetch fails enter the LRU order in some order, and with nothing
presented the bridge master drops its lock flag and releases the bus, while a slot keeps it. The model's own choices here:
an expiry moves the present time to its deadline (log 4); the order in which failed lines enter the LRU order at a link loss
is free (log 7); an INIT received while UP needs no MaxPayload (log 15); a presentation whose command is gone goes on (log
28). -/
def Obligations.LinkLossDiscardsWork : Prop :=
  ∀ (c : Instr) (training reset : Bool) (time : Time) (s : State), LossCause c training reset time s →
    s.uplink.linkState = .up → ∃ t, exec c s = .next t ∧
      (∀ i, lineAt i t = match lineAt i s with | .fetching b f _ false tag => .error b f tag | _ => .free) ∧
      (t.staging.closedOrder = [] ∧ t.staging.globalDrain = none ∧ t.staging.mapBarrier = none ∧
        t.staging.buffering = s.staging.buffering ∧ t.staging.readAhead = s.staging.readAhead ∧
        t.staging.gatherIdle = s.staging.gatherIdle ∧ (∀ slot, t.staging.slotDrains.get slot = SlotDrains.none) ∧
        t.staging.lru.Perm (allLines.filter (fun i => (lineAt i t).reclaimable))) ∧
      (∀ i, t.tracker.tags.get i =
        match (s.tracker.tags.get i).state with
        | .free => s.tracker.tags.get i
        | _ => ⟨.free, (s.tracker.tags.get i).generation + 1⟩) ∧
      (t.tracker.requestQueue = [] ∧ t.tracker.posted = [] ∧ t.tracker.writeHold = false ∧
        t.tracker.nextPosted = s.tracker.nextPosted ∧ t.tracker.holdHigh = s.tracker.holdHigh ∧
        t.tracker.holdLow = s.tracker.holdLow ∧ t.tracker.readTimeout = s.tracker.readTimeout) ∧
      (t.locks.hostLock = .free ∧ t.locks.episode = none ∧ t.locks.lockLimit = s.locks.lockLimit ∧
        t.locks.episodeLimit = s.locks.episodeLimit ∧
        t.locks.abortNext =
          match s.locks.episode with | some e => s.locks.abortNext ||| slotBit e.slot | none => s.locks.abortNext) ∧
      (∀ slot, eventAt slot t =
        match (eventAt slot s).state with
        | .idle => eventAt slot s
        | .pending _ => { eventAt slot s with state := .pending true }
        | .sent sent => { eventAt slot s with state := .pending true, resend := (eventAt slot s).resend || sent }) ∧
      t.events.offered = [] ∧ t.events.lines = s.events.lines ∧
      (masterPresenting s = false → t.master = { s.master with access := none } ∧ t.bus = masterReleased s.bus) ∧
      (masterPresenting s = true → t.master = s.master ∧ t.bus = s.bus) ∧ t.bus.slots = s.bus.slots ∧
      t.bus.pointer = s.bus.pointer

/-- An ACK of a Seq in the replay buffer removes the frames through it, and is progress. A NAK of one does so too and begins
a replay of the frames that remain, or none where it removes the whole buffer. A NAK of the last Seq acknowledged begins a
replay of the whole buffer if it is not empty; an ACK of it removes nothing, and any other Seq is ignored. The model's own
choices here: time counts in units of 0.5 µs (log 3). -/
def Obligations.AckAndNakRemoveFrames : Prop :=
  (∀ (p : List Byte) (f : SentFrame) (fs : List SentFrame) (k : Nat) (s : State), p.length = 4 →
    s.uplink.linkState = .up → s.uplink.replay = f :: fs → (namedSeq p - f.seq).toNat = k → k ≤ fs.length →
    ∃ t, exec (.ackReceived p) s = .next t ∧ OnlyChanges [.uplink] s t ∧
      t.uplink =
        { s.uplink with
          replay := fs.drop k
          replayCount := 0
          replayDeadline := if fs.drop k = [] then none else some (s.now + 100)
          replayNext := t.uplink.replayNext } ∧
      (s.uplink.replayNext = none → t.uplink.replayNext = none) ∧
      (∀ (m : SeqNo) (g : SentFrame) (gs : List SentFrame), s.uplink.replayNext = some m → fs.drop k = g :: gs →
        t.uplink.replayNext = some (if (m - f.seq).toNat ≤ k then g.seq else m)) ∧
      (fs.drop k = [] → t.uplink.replayNext = none)) ∧
  (∀ (p : List Byte) (f g : SentFrame) (fs gs : List SentFrame) (k : Nat) (s : State), p.length = 4 →
    s.uplink.linkState = .up → s.uplink.replay = f :: fs → (namedSeq p - f.seq).toNat = k → fs.drop k = g :: gs →
    ∃ t, exec (.nakReceived p) s = .next t ∧ OnlyChanges [.uplink] s t ∧
      t.uplink =
        { s.uplink with
          replay := g :: gs
          replayCount := 1
          replays := satInc s.uplink.replays
          replayNext := some g.seq
          replayDeadline := some (s.now + 100) }) ∧
  (∀ (p : List Byte) (f : SentFrame) (fs : List SentFrame) (s : State), p.length = 4 → s.uplink.linkState = .up →
    s.uplink.replay = f :: fs → (namedSeq p - f.seq).toNat = fs.length →
    ∃ t, exec (.nakReceived p) s = .next t ∧ OnlyChanges [.uplink] s t ∧
      t.uplink =
        { s.uplink with replay := [], replayCount := 0, replayDeadline := none, replayNext := none }) ∧
  (∀ (p : List Byte) (f : SentFrame) (fs : List SentFrame) (s : State), p.length = 4 → s.uplink.linkState = .up →
    s.uplink.replay = f :: fs → s.uplink.replay.length ≤ 16 → namedSeq p + 1 = f.seq → s.uplink.replayCount < 4 →
    ∃ t, exec (.nakReceived p) s = .next t ∧ OnlyChanges [.uplink] s t ∧
      t.uplink =
        { s.uplink with
          replayCount := s.uplink.replayCount + 1
          replays := satInc s.uplink.replays
          replayNext := some f.seq
          replayDeadline := some (s.now + 100) }) ∧
  (∀ (p : List Byte) (s : State), p.length = 4 → s.uplink.linkState = .up → s.uplink.replay.length ≤ 16 →
    namedSeq p + 1 = oldest s.uplink →
    exec (.ackReceived p) s = .next s ∧ (s.uplink.replay = [] → exec (.nakReceived p) s = .next s)) ∧
  ∀ (p : List Byte) (s : State), p.length = 4 → s.uplink.linkState = .up →
    s.uplink.replay.length ≤ (namedSeq p - oldest s.uplink).toNat → namedSeq p + 1 ≠ oldest s.uplink →
    exec (.ackReceived p) s = .next s ∧ exec (.nakReceived p) s = .next s

/-- A CREDIT frame adds its two increments, each stopping at 255, and reports one CREDIT_OVERFLOW if either would pass 255.
-/
def Obligations.CreditFrameGrantsCredits : Prop :=
  ∀ (c r q x : Byte) (s : State), s.uplink.linkState = .up →
    ∃ t, exec (.creditReceived [c, r, q, x]) s = .next t ∧ OnlyChanges [.uplink, .faults] s t ∧
      t.uplink = { s.uplink with requestCredits := t.uplink.requestCredits, postedCredits := t.uplink.postedCredits } ∧
      t.uplink.requestCredits.toNat = min 255 (s.uplink.requestCredits.toNat + r.toNat) ∧
      t.uplink.postedCredits.toNat = min 255 (s.uplink.postedCredits.toNat + q.toNat) ∧
      (s.uplink.requestCredits.toNat + r.toNat ≤ 255 → s.uplink.postedCredits.toNat + q.toNat ≤ 255 →
        t.faults = s.faults) ∧
      (255 < s.uplink.requestCredits.toNat + r.toNat ∨ 255 < s.uplink.postedCredits.toNat + q.toNat →
        s.faults.queue.length < 16 →
        t.faults =
          { s.faults with
            queue := s.faults.queue ++
              [{ seq := s.faults.nextSeq, report := { kind := .creditOverflow }, fenced := false,
                 lostBefore := s.faults.dropped }]
            dropped := 0
            nextSeq := s.faults.nextSeq + 1 })

/-- A bad frame is counted when its CRC failed, in any link state, and calls for a NAK while UP unless one has been sent.
The model's own choices here: a command whose event cannot occur changes nothing (log 2); the CRC register is read
reflected, as presumed (log 10); which link frames stay due (log 11). -/
def Obligations.BadFrameIsCountedAndNaked : Prop :=
  ∀ (b : List Byte) (s : State), checkFrame b ≠ .good →
    ∃ t, exec (.badFrameReceived b) s = .next t ∧ OnlyChanges [.uplink] s t ∧
      t.uplink =
        { s.uplink with
          crcErrors := if checkFrame b = .crcFailed then satInc s.uplink.crcErrors else s.uplink.crcErrors
          nakDue := s.uplink.nakDue || (s.uplink.linkState == .up && !s.uplink.nakSent) }

/-- The uplink's timers: ReplayDeadline, with fewer than four replays since progress, begins a replay of the whole buffer;
the INIT interval, TrainingDeadline and AckDeadline. The model's own choices here: time counts in units of 0.5 µs (log 3);
an expiry moves the present time to its deadline (log 4); the values at reset that the spec does not give and the INIT
interval (log 16). -/
def Obligations.LinkTimersExpire : Prop :=
  (∀ (d : Time) (f : SentFrame) (fs : List SentFrame) (s : State), s.uplink.replayDeadline = some d →
    s.uplink.replay = f :: fs → s.uplink.replayCount < 4 →
    ∃ t, exec .replayDeadlineExpiry s = .next t ∧ OnlyChanges [.uplink, .time] s t ∧ t.now = max s.now d ∧
      t.uplink =
        { s.uplink with
          replayCount := s.uplink.replayCount + 1
          replays := satInc s.uplink.replays
          replayNext := some f.seq
          replayDeadline := some (max s.now d + 100) }) ∧
  (∀ (d : Time) (s : State), s.uplink.linkState ≠ .up → s.uplink.initDeadline = some d →
    ∃ t, exec .initIntervalExpiry s = .next t ∧ OnlyChanges [.uplink, .time] s t ∧ t.now = max s.now d ∧
      t.uplink = { s.uplink with initDue := true, initDeadline := some (max s.now d + 2000) }) ∧
  (∀ (d : Time) (s : State), s.uplink.linkState = .training → s.uplink.trainingDeadline = some d →
    ∃ t, exec .trainingDeadlineExpiry s = .next t ∧ OnlyChanges [.uplink, .time] s t ∧ t.now = max s.now d ∧
      t.uplink =
        { s.uplink with
          linkState := .down
          trainingDeadline := none
          initDeadline := some (max s.now d + 2000)
          initDue := true }) ∧
  (∀ (d : Time) (s : State), s.uplink.ackDeadline = some d →
    ∃ t, exec .ackDeadlineExpiry s = .next t ∧ OnlyChanges [.uplink, .time] s t ∧ t.now = max s.now d ∧
      t.uplink = { s.uplink with ackDue := true })

/-! ### The transmitter -/

/-- Link frames are sent first, in the order LINK_RESET, INIT, NAK, ACK, CREDIT; then the frame that a replay names. The
model's own choices here: which link frames stay due (log 11); a frame is sent in one step and the lane holds the last one
(log 22). -/
def Obligations.LinkFramesGoFirst : Prop :=
  (∀ s : State, s.uplink.resetDue = true → ∃ t, exec .transmitterFree s = .next t ∧ OnlyChanges [.uplink] s t ∧
    t.uplink = { s.uplink with resetDue := false, lane := some (.link .linkReset) }) ∧
  (∀ s : State, s.uplink.resetDue = false → s.uplink.initDue = true →
    ∃ t, exec .transmitterFree s = .next t ∧ OnlyChanges [.uplink] s t ∧
      t.uplink =
        { s.uplink with
          initDue := false
          lane := some (.link (.init (s.uplink.linkState == .training) s.uplink.linkEpoch)) }) ∧
  (∀ s : State, s.uplink.resetDue = false → s.uplink.initDue = false → s.uplink.nakDue = true →
    ∃ t, exec .transmitterFree s = .next t ∧ OnlyChanges [.uplink] s t ∧
      t.uplink =
        { s.uplink with
          nakDue := false
          nakSent := true
          naksSent := satInc s.uplink.naksSent
          unacknowledged := 0
          ackDeadline := none
          ackDue := false
          lane := some (.link (.nak (s.uplink.nextRx - 1))) }) ∧
  (∀ s : State, s.uplink.resetDue = false → s.uplink.initDue = false → s.uplink.nakDue = false → s.uplink.ackDue = true →
    ∃ t, exec .transmitterFree s = .next t ∧ OnlyChanges [.uplink] s t ∧
      t.uplink =
        { s.uplink with
          unacknowledged := 0
          ackDeadline := none
          ackDue := false
          lane := some (.link (.ack (s.uplink.nextRx - 1))) }) ∧
  (∀ s : State, s.uplink.resetDue = false → s.uplink.initDue = false → s.uplink.nakDue = false →
    s.uplink.ackDue = false → s.uplink.linkState = .up → 0 < s.uplink.pendingCredits →
    ∃ t, exec .transmitterFree s = .next t ∧ OnlyChanges [.uplink] s t ∧
      t.uplink =
        { s.uplink with
          creditsReturned := s.uplink.creditsReturned + BitVec.ofNat 16 s.uplink.pendingCredits
          pendingCredits := 0
          lane := some (.link (.credit s.uplink.pendingCredits)) }) ∧
  ∀ (n : SeqNo) (f : SentFrame) (s : State), s.uplink.resetDue = false → s.uplink.initDue = false →
    s.uplink.nakDue = false → s.uplink.ackDue = false → s.uplink.pendingCredits = 0 → s.uplink.replayNext = some n →
    s.uplink.replay.find? (fun f => f.seq = n) = some f →
    ∃ t, exec .transmitterFree s = .next t ∧ OnlyChanges [.uplink] s t ∧
      t.uplink =
        { s.uplink with
          replayNext := if n + 1 = s.uplink.nextTx then none else some (n + 1)
          unacknowledged := 0
          ackDeadline := none
          lane := some (.sequenced n (s.uplink.nextRx - 1) f.frame) }

/-- The class that row 3 serves is the first ready one after ClassPointer. The POSTED class: the head leaves as its frame,
one posted credit is consumed, write hold turns off at HoldLow, and the drains learn of it. The REQUEST class: the head
becomes OUTSTANDING with its Deadline, and one request credit is consumed. A head with no credit for it stays where it is,
no new frame is sent while the replay buffer holds 16 frames or the link is not UP, none but of the class that row 3 serves,
and with no frame ready nothing changes. The model's own choices here: time counts in units of 0.5 µs (log 3); a completed
drain is held until it is reported (log 8); a frame is sent in one step and the lane holds the last one (log 22). -/
def Obligations.PostedAndRequestsAreTransmitted : Prop :=
  (∀ (p : PostedEntry) (rest : List PostedEntry) (s : State), Chosen .posted s → s.tracker.posted = p :: rest →
    ∃ t, exec .transmitterFree s = .next t ∧ OnlyChanges [.uplink, .tracker, .staging] s t ∧
      Transmitted
        (match p.kind with
        | .write mask data => .memWrite p.hostAddress mask p.slot p.locked data
        | .exclEnd => .exclEnd p.slot p.hostAddress) s t ∧
      t.uplink.postedCredits = s.uplink.postedCredits - 1 ∧ t.uplink.requestCredits = s.uplink.requestCredits ∧
      t.uplink.classPointer = .posted ∧
      t.tracker =
        { s.tracker with
          posted := rest
          writeHold := s.tracker.writeHold && !decide (rest.length ≤ s.tracker.holdLow) } ∧
      t.staging =
        { s.staging with
          slotDrains := t.staging.slotDrains
          globalDrain :=
            if s.staging.globalDrain = some (.posted p.number) then some .transmitted else s.staging.globalDrain
          mapBarrier :=
            if s.staging.mapBarrier = some (.posted p.number) then some .transmitted else s.staging.mapBarrier } ∧
      ∀ x, t.staging.slotDrains.get x =
        if x = p.slot ∧ (∀ j, (lineAt j s).ofSlot x = true → (lineAt j s).isWrite = false) ∧ (∀ y ∈ rest, y.slot ≠ x) then
          (s.staging.slotDrains.get x).finish
        else s.staging.slotDrains.get x) ∧
  (∀ (i : TagIx) (rest : List TagIx) (r : Request) (s : State), Chosen .request s → s.tracker.requestQueue = i :: rest →
    (s.tracker.tags.get i).state = .waiting r →
    ∃ t, exec .transmitterFree s = .next t ∧ OnlyChanges [.uplink, .tracker] s t ∧
      Transmitted (requestFrame ⟨i, (s.tracker.tags.get i).generation⟩ r) s t ∧
      t.uplink.requestCredits = s.uplink.requestCredits - 1 ∧ t.uplink.postedCredits = s.uplink.postedCredits ∧
      t.uplink.classPointer = .request ∧
      t.tracker =
        { s.tracker with
          requestQueue := rest
          tags := s.tracker.tags.set i
            ⟨.outstanding r (s.now + 2000 * s.tracker.readTimeout), (s.tracker.tags.get i).generation⟩ }) ∧
  (∀ s : State, ∃ t, exec .transmitterFree s = .next t ∧
    (s.uplink.postedCredits = 0 → t.tracker.posted = s.tracker.posted ∧ t.uplink.postedCredits = 0) ∧
    (s.uplink.requestCredits = 0 →
      t.tracker.requestQueue = s.tracker.requestQueue ∧ t.tracker.tags = s.tracker.tags ∧ t.uplink.requestCredits = 0) ∧
    (16 ≤ s.uplink.replay.length ∨ s.uplink.linkState ≠ .up → NothingNewSent s t) ∧
    ((∃ c, Chosen c s ∧ t.uplink.classPointer = c) ∨ NothingNewSent s t)) ∧
  ∀ s : State, RowThree s →
    (16 ≤ s.uplink.replay.length ∨ s.uplink.linkState ≠ .up ∨ ∀ c, ¬ Ready s c) → exec .transmitterFree s = .next s

/-- The FAULT class and the REPLY class, where row 3 serves them as the first ready one after ClassPointer: the head of the
fault queue; the reply queue and the offered EVENT frames in turn. The model's own choices here: a frame is sent in one step
and the lane holds the last one (log 22). -/
def Obligations.ReportsAreTransmitted : Prop :=
  (∀ (r : FaultRecord) (rest : List FaultRecord) (s : State), Chosen .fault s → s.faults.queue = r :: rest →
    ∃ t, exec .transmitterFree s = .next t ∧ OnlyChanges [.uplink, .faults] s t ∧
      Transmitted (.fault r) s t ∧ t.uplink.classPointer = .fault ∧
      t.faults = { s.faults with queue := rest }) ∧
  (∀ (f : ReportFrame) (rest : List ReportFrame) (s : State), Chosen .reply s → s.command.replies = f :: rest →
    (s.events.offered = [] ∨ s.uplink.replySource = .events) →
    ∃ t, exec .transmitterFree s = .next t ∧ OnlyChanges [.uplink, .command] s t ∧
      Transmitted (.report f) s t ∧ t.uplink.classPointer = .reply ∧
      t.uplink.replySource = .replyQueue ∧ t.command = { s.command with replies := rest }) ∧
  ∀ (f : EventFrame) (rest : List EventFrame) (s : State), Chosen .reply s → s.events.offered = f :: rest →
    (s.command.replies = [] ∨ s.uplink.replySource = .replyQueue) →
    ∃ t, exec .transmitterFree s = .next t ∧ OnlyChanges [.uplink, .events] s t ∧
      Transmitted (.event f) s t ∧ t.uplink.classPointer = .reply ∧ t.uplink.replySource = .events ∧
      t.events =
        { s.events with
          offered := rest
          records := s.events.records.set f.slot { eventAt f.slot s with state := .sent true, resend := true } }

/-! ### The page map -/

/-- On a valid entry whose Slots hold the slot, Access alone decides: NONE permits nothing, READ unlocked reads, WRITE
unlocked writes, READ_WRITE every access; a locked access, the first of an episode or a later one, needs READ_WRITE. -/
def Obligations.AccessPermitsByDirectionAndLock : Prop :=
  ∀ (m : PageMap) (slot : Slot) (a : CardAddr) (write lock : Bool),
    (m.entries.get (entryIndex m a)).valid = true → slotIn (m.entries.get (entryIndex m a)).slots slot = true →
    ((∃ tr, translate m slot a write lock = .passed tr) ↔
      match (m.entries.get (entryIndex m a)).access with
      | .none => False
      | .read => write = false ∧ lock = false
      | .write => write = true ∧ lock = false
      | .readWrite => True) ∧
    ((¬ ∃ tr, translate m slot a write lock = .passed tr) → translate m slot a write lock = .refused .accessDenied)

/-- An address in the window lands in the host page of its entry, at the same page offset, at most 3FFFFFFFFFFFh, which is
reached, and the result record carries the entry's index, Epoch and Mode. The bytes of one presentation lie in one 64-byte
block, which one entry maps onto one host line; a transfer that goes on past the block is answered PARTIAL at the boundary.
The example of R4. -/
def Obligations.TranslationGivesHostAddress : Prop :=
  (∀ (m : PageMap) (slot : Slot) (a : CardAddr) (write lock : Bool) (tr : Translation), inWindow m a = true →
    translate m slot a write lock = .passed tr →
    tr.slot = slot ∧ tr.mapIndex.val = (a.toNat - m.base.toNat) / 16384 ∧
      tr.hostAddress.toNat =
        (m.entries.get tr.mapIndex).hostFrame.toNat * 16384 + (a.toNat - m.base.toNat) % 16384 ∧
      tr.epoch = (m.entries.get tr.mapIndex).epoch ∧ tr.mode = (m.entries.get tr.mapIndex).mode ∧
      tr.offset = tr.hostAddress.toNat % 64 ∧ tr.hostLine.toNat = tr.hostAddress.toNat / 64 * 64 ∧
      tr.hostAddress.toNat ≤ 0x3FFFFFFFFFFF) ∧
  (∃ (m : PageMap) (a : CardAddr) (tr : Translation), inWindow m a = true ∧
    translate m 0 a false false = .passed tr ∧ tr.hostAddress = 0x3FFFFFFFFFFF) ∧
  (∀ (m : PageMap) (slot : Slot) (a b : CardAddr) (x : Transfer) (write lock : Bool) (tr : Translation),
    m.base.toNat % 0x800000 = 0 → inWindow m a = true → translate m slot a write lock = .passed tr →
    a.toNat ≤ b.toNat → b.toNat < a.toNat + blockLength a x →
    b.toNat / 64 = a.toNat / 64 ∧ inWindow m b = true ∧
      ∃ u, translate m slot b write lock = .passed u ∧ u.mapIndex = tr.mapIndex ∧ u.hostLine = tr.hostLine ∧
        u.offset = tr.offset + (b.toNat - a.toNat)) ∧
  (∀ (slot : Slot) (a : CardAddr) (x : Transfer) (data : List Byte) (s : State), blockLength a x < x.length →
    (a.toNat + blockLength a x) % 64 = 0 ∧
      (respond slot x.length (blockLength a x) (.complete data) s).bus.answer = some ⟨.partly (blockLength a x), data⟩) ∧
  ∀ (m : PageMap) (slot : Slot) (write lock : Bool) (tr : Translation), m.base = 0x40000000 →
    (m.entries.get 140).hostFrame = 0x21A57 → translate m slot 0x40231234 write lock = .passed tr →
    tr.mapIndex = 140 ∧ tr.hostAddress = 0x8695D234 ∧ tr.hostLine = 0x8695D200 ∧ tr.offset = 0x34

/-- MAP_WRITE and MAP_INVALIDATE, with no episode in progress: the covered entries change and their Epochs advance, the
lines bound to them are closed or freed, and the reply waits for the map barrier. The model's own choices here: the order in
which several lines close is free (log 7); a completed drain is held until it is reported (log 8); a command credit past 8
is free (log 13). -/
def Obligations.MapCommandsChangeEntriesAndBarrier : Prop :=
  (∀ (e : CommandEntry) (rest : List CommandEntry) (first : Nat) (records : List EntryFields) (s : State),
    Heads s e rest (.mapWrite first records) → s.locks.episode = none →
    ∃ t, exec .mapWrite s = .next t ∧ OnlyChanges [.pageMap, .staging, .command, .uplink] s t ∧ CreditReturned s t ∧
      t.pageMap.on = s.pageMap.on ∧ t.pageMap.base = s.pageMap.base ∧
      (∀ i, t.pageMap.entries.get i =
        if first ≤ i.val then
          match records[i.val - first]? with
          | some f => ⟨f.valid, f.hostFrame, f.access, f.slots, f.mode, (s.pageMap.entries.get i).epoch + 1⟩
          | none => s.pageMap.entries.get i
        else s.pageMap.entries.get i) ∧
      LinesQuieted (coveredBy s.pageMap first records.length) s t ∧ SettingsKept s t ∧
      t.staging.slotDrains = s.staging.slotDrains ∧ t.staging.globalDrain = s.staging.globalDrain ∧
      AwaitsBarrier (coveredBy s.pageMap first records.length) e rest s t) ∧
  ∀ (e : CommandEntry) (rest : List CommandEntry) (first count : Nat) (s : State),
    Heads s e rest (.mapInvalidate first count) → s.locks.episode = none →
    ∃ t, exec .mapInvalidate s = .next t ∧ OnlyChanges [.pageMap, .staging, .command, .uplink] s t ∧
      CreditReturned s t ∧ t.pageMap.on = s.pageMap.on ∧ t.pageMap.base = s.pageMap.base ∧
      (∀ i, t.pageMap.entries.get i =
        if first ≤ i.val ∧ i.val < first + count then
          { s.pageMap.entries.get i with valid := false, epoch := (s.pageMap.entries.get i).epoch + 1 }
        else s.pageMap.entries.get i) ∧
      LinesQuieted (coveredBy s.pageMap first count) s t ∧ SettingsKept s t ∧
      t.staging.slotDrains = s.staging.slotDrains ∧ t.staging.globalDrain = s.staging.globalDrain ∧
      AwaitsBarrier (coveredBy s.pageMap first count) e rest s t

/-- While an episode is in progress MAP_WRITE, MAP_INVALIDATE and WINDOW_SET wait and change nothing; one that waits starts
in the step in which the episode returns to NONE, by withdrawal, by the EXCL_END, by the limit or by a refused EXCL_BEGIN:
on the state u that the step makes without it, the entries or the window change, lines close and free, and the barrier or
drain is begun, with the reply or the wait for it. The model's own choices here: an expiry moves the present time to its
deadline (log 4); the order in which several lines close is free (log 7); a completed drain is held until it is reported
(log 8); when a waiting map command starts (log 9); Unacknowledged stops at 4 (log 12); a command credit past 8 is free (log
13); a lock release acts although the slot’s own transaction has not ended (log 33). -/
def Obligations.MapCommandsWaitForEpisode : Prop :=
  (∀ (e : CommandEntry) (rest : List CommandEntry) (c : Command) (i : Instr) (ep : Episode) (s : State), Heads s e rest c →
    ((i = .mapWrite ∧ ∃ first records, c = .mapWrite first records) ∨
      (i = .mapInvalidate ∧ ∃ first count, c = .mapInvalidate first count) ∨
      (i = .windowSet ∧ ∃ on base, c = .windowSet on base)) →
    s.locks.episode = some ep →
    ∃ t, exec i s = .next t ∧ OnlyChanges [.command, .uplink] s t ∧ CreditReturned s t ∧ Waits e rest .episode s t) ∧
  (∀ (x : Executing) (first count : Nat) (ep : Episode) (s : State), s.command.executing = some x → x.wait = .episode →
    parseCommand x.code x.args = some (.mapInvalidate first count) → s.locks.episode = some ep →
    ep.state = .requested → ep.beginQueued = false →
    ∃ t, exec (.lockRelease ep.slot) s = .next t ∧ OnlyChanges [.pageMap, .staging, .command, .locks] s t ∧
      t.locks = { s.locks with episode := none } ∧
      (∀ i, t.pageMap.entries.get i =
        if first ≤ i.val ∧ i.val < first + count then
          { s.pageMap.entries.get i with valid := false, epoch := (s.pageMap.entries.get i).epoch + 1 }
        else s.pageMap.entries.get i) ∧
      LinesQuieted (coveredBy s.pageMap first count) s t) ∧
  ∀ (x : Executing) (c : Command) (i : Instr) (ep : Episode) (s u : State), s.command.executing = some x →
    x.wait = .episode → parseCommand x.code x.args = some c → IsMapCommand c → s.locks.episode = some ep →
    EndsEpisode i ep s →
    exec i (s.setCommand { s.command with executing := some { x with wait := .none } }) = .next u →
    ∃ t, exec i s = .next t ∧ u.locks.episode = none ∧
      u.command = { s.command with executing := some { x with wait := .none } } ∧ MapStarted x c u t

/-- MAP_READ replies with the covered entries in index order and changes no entry, whatever the episode. The model's own
choices here: a command credit past 8 is free (log 13). -/
def Obligations.MapReadReturnsEntries : Prop :=
  ∀ (e : CommandEntry) (rest : List CommandEntry) (first count : Nat) (s : State), Heads s e rest (.mapRead first count) →
    ∃ t, exec .mapRead s = .next t ∧ OnlyChanges [.command, .uplink] s t ∧ CreditReturned s t ∧
      Replied e rest .ok
        (be 2 first ++ [BitVec.ofNat 8 count, 0] ++
          ((s.pageMap.entries.items.drop first).take count).flatMap entryRecord) s t

/-- WINDOW_SET, with no episode in progress: the window changes, Base only when On is yes; every GATHERING line is closed,
every read line freed, and the reply waits for the global drain. The model's own choices here: the order in which several
lines close is free (log 7); a completed drain is held until it is reported (log 8); a command credit past 8 is free (log
13). -/
def Obligations.WindowSetDrainsAndFrees : Prop :=
  ∀ (e : CommandEntry) (rest : List CommandEntry) (on : Bool) (base : CardAddr) (s : State),
    Heads s e rest (.windowSet on base) → s.locks.episode = none →
    ∃ t, exec .windowSet s = .next t ∧ OnlyChanges [.pageMap, .staging, .command, .uplink] s t ∧ CreditReturned s t ∧
      t.pageMap = { s.pageMap with on := on, base := if on = true then base else s.pageMap.base } ∧
      LinesQuieted (fun _ => true) s t ∧ SettingsKept s t ∧ t.staging.slotDrains = s.staging.slotDrains ∧
      t.staging.mapBarrier = s.staging.mapBarrier ∧ DrainMarked t ∧ AwaitsDrain e rest s t

/-! ### Settings -/

/-- BUFFER_CONTROL sets the fields present; ENABLE replies at once, FLUSH and DISABLE drain and free every read line. The
model's own choices here: the order in which several lines close is free (log 7); a completed drain is held until it is
reported (log 8); a command credit past 8 is free (log 13). -/
def Obligations.BufferControlSetsAndDrains : Prop :=
  (∀ (e : CommandEntry) (rest : List CommandEntry) (g : Option Nat) (r : Option Bool) (s : State),
    Heads s e rest (.bufferControl .enable g r) →
    ∃ t, exec .bufferControlEnable s = .next t ∧ OnlyChanges [.staging, .command, .uplink] s t ∧ CreditReturned s t ∧
      t.staging =
        { s.staging with
          buffering := true
          gatherIdle := g.getD s.staging.gatherIdle
          readAhead := r.getD s.staging.readAhead } ∧
      Replied e rest .ok [] s t) ∧
  ∀ (e : CommandEntry) (rest : List CommandEntry) (act : BufferAction) (i : Instr) (g : Option Nat) (r : Option Bool)
    (s : State), Heads s e rest (.bufferControl act g r) →
    ((act = .flush ∧ i = .bufferControlFlush) ∨ (act = .disable ∧ i = .bufferControlDisable)) →
    ∃ t, exec i s = .next t ∧ OnlyChanges [.staging, .command, .uplink] s t ∧ CreditReturned s t ∧
      t.staging.buffering = (if act = .disable then false else s.staging.buffering) ∧
      t.staging.gatherIdle = g.getD s.staging.gatherIdle ∧ t.staging.readAhead = r.getD s.staging.readAhead ∧
      LinesQuieted (fun _ => true) s t ∧ t.staging.slotDrains = s.staging.slotDrains ∧
      t.staging.mapBarrier = s.staging.mapBarrier ∧ DrainMarked t ∧ AwaitsDrain e rest s t

/-- SET_LIMITS forms the pair of marks that would result: a HoldLow not less than HoldHigh is refused and no limit changes;
else every present field is set in one step and the write-hold flag is tested against the new marks. Deadlines that run and
records already made keep their values. The model's own choices here: a command credit past 8 is free (log 13). -/
def Obligations.SetLimitsChecksMarksThenSets : Prop :=
  ∀ (e : CommandEntry) (rest : List CommandEntry) (l : LimitFields) (s : State), Heads s e rest (.setLimits l) →
    ∃ t, exec .setLimits s = .next t ∧ CreditReturned s t ∧
      (l.holdHigh.getD s.tracker.holdHigh ≤ l.holdLow.getD s.tracker.holdLow →
        OnlyChanges [.command, .uplink] s t ∧ Replied e rest .badArgument [] s t) ∧
      (l.holdLow.getD s.tracker.holdLow < l.holdHigh.getD s.tracker.holdHigh →
        OnlyChanges [.tracker, .locks, .master, .command, .uplink] s t ∧ Replied e rest .ok [] s t ∧
        t.tracker =
          { s.tracker with
            holdHigh := l.holdHigh.getD s.tracker.holdHigh
            holdLow := l.holdLow.getD s.tracker.holdLow
            readTimeout := l.readTimeout.getD s.tracker.readTimeout
            writeHold :=
              if s.tracker.writeHold = true then
                decide (l.holdLow.getD s.tracker.holdLow < s.tracker.posted.length)
              else decide (l.holdHigh.getD s.tracker.holdHigh ≤ s.tracker.posted.length) } ∧
        t.locks =
          { s.locks with
            episodeLimit := l.episodeLimit.getD s.locks.episodeLimit
            lockLimit := l.lockLimit.getD s.locks.lockLimit } ∧
        t.master = { s.master with retryLimit := l.retryLimit.getD s.master.retryLimit })

/-! ### SLOT_CONTROL -/

/-- ENABLE of a disabled slot lets it take part and looks at its interrupt line; ENABLE of an enabled slot changes nothing.
The model's own choices here: the order in which several lines close is free (log 7); a completed drain is held until it is
reported (log 8); a command credit past 8 is free (log 13). -/
def Obligations.EnableAdmitsSlot : Prop :=
  ∀ (e : CommandEntry) (rest : List CommandEntry) (slot : Slot) (s : State),
    Heads s e rest (.slotControl slot .enable) →
    ∃ t, exec .slotControlEnable s = .next t ∧ CreditReturned s t ∧ Replied e rest .ok [] s t ∧
      ((s.bus.slots.get slot).enabled = true → OnlyChanges [.command, .uplink] s t) ∧
      ((s.bus.slots.get slot).enabled = false →
        OnlyChanges [.bus, .events, .staging, .command, .uplink] s t ∧
        t.bus = { s.bus with slots := s.bus.slots.set slot { s.bus.slots.get slot with enabled := true } } ∧
        t.events.lines = s.events.lines ∧
        (Raisable slot { s with bus := t.bus } → Raised slot s t) ∧
        (¬ Raisable slot { s with bus := t.bus } → t.events = s.events ∧ t.staging = s.staging))

/-- DISABLE of an enabled slot and RESET of an enabled slot end its ownership of the bus, quiet its lines and end its event,
and its card claims nothing from then on; RESET runs 100 µs from now. DISABLE of a disabled slot changes nothing; RESET of
one is answered SLOT_DISABLED. The model's own choices here: time counts in units of 0.5 µs (log 3); the order in which
several lines close is free (log 7); a completed drain is held until it is reported (log 8); a command credit past 8 is free
(log 13); which cards may claim a presentation (log 31). -/
def Obligations.DisableAndResetSilenceSlot : Prop :=
  (∀ (e : CommandEntry) (rest : List CommandEntry) (slot : Slot) (s : State),
    Heads s e rest (.slotControl slot .disable) →
    ∃ t, exec .slotControlDisable s = .next t ∧ CreditReturned s t ∧ Replied e rest .ok [] s t ∧
      ((s.bus.slots.get slot).enabled = false → OnlyChanges [.command, .uplink] s t) ∧
      ((s.bus.slots.get slot).enabled = true →
        OnlyChanges [.bus, .events, .staging, .command, .uplink] s t ∧ SlotSilenced slot s t ∧
        t.bus =
          { ownershipEnded slot s.bus with
            slots := s.bus.slots.set slot { s.bus.slots.get slot with enabled := false, resetDeadline := none }
            claimants := s.bus.claimants.filter (· ≠ slot) })) ∧
  ∀ (e : CommandEntry) (rest : List CommandEntry) (slot : Slot) (s : State),
    Heads s e rest (.slotControl slot .reset) →
    ∃ t, exec .slotControlReset s = .next t ∧ CreditReturned s t ∧
      ((s.bus.slots.get slot).enabled = false →
        OnlyChanges [.command, .uplink] s t ∧ Replied e rest .slotDisabled [] s t) ∧
      ((s.bus.slots.get slot).enabled = true →
        OnlyChanges [.bus, .events, .staging, .command, .uplink] s t ∧ Replied e rest .ok [] s t ∧
        SlotSilenced slot s t ∧
        t.bus =
          { ownershipEnded slot s.bus with
            slots := s.bus.slots.set slot { s.bus.slots.get slot with resetDeadline := some (s.now + 200) }
            claimants := s.bus.claimants.filter (· ≠ slot) })

/-- FENCE of an unfenced slot fences it and quiets its lines; of a fenced one changes nothing. UNFENCE clears the fence and
changes no line. CLEAR_FAULTS sets the slot's abort counts to 0 and empties its summary. The model's own choices here: the
order in which several lines close is free (log 7); a command credit past 8 is free (log 13). -/
def Obligations.FenceUnfenceAndClearFaults : Prop :=
  (∀ (e : CommandEntry) (rest : List CommandEntry) (slot : Slot) (s : State), Heads s e rest (.slotControl slot .fence) →
    ∃ t, exec .slotControlFence s = .next t ∧ CreditReturned s t ∧ Replied e rest .ok [] s t ∧
      ((s.bus.slots.get slot).fenced = true → OnlyChanges [.command, .uplink] s t) ∧
      ((s.bus.slots.get slot).fenced = false →
        OnlyChanges [.bus, .staging, .command, .uplink] s t ∧ SlotFenced slot s t ∧
        t.staging.slotDrains = s.staging.slotDrains ∧ t.bus = { s.bus with slots := t.bus.slots })) ∧
  (∀ (e : CommandEntry) (rest : List CommandEntry) (slot : Slot) (s : State), Heads s e rest (.slotControl slot .unfence) →
    ∃ t, exec .slotControlUnfence s = .next t ∧ CreditReturned s t ∧ Replied e rest .ok [] s t ∧
      OnlyChanges [.bus, .command, .uplink] s t ∧
      t.bus = { s.bus with slots := s.bus.slots.set slot { s.bus.slots.get slot with fenced := false } }) ∧
  ∀ (e : CommandEntry) (rest : List CommandEntry) (slot : Slot) (s : State),
    Heads s e rest (.slotControl slot .clearFaults) →
    ∃ t, exec .slotControlClearFaults s = .next t ∧ CreditReturned s t ∧ Replied e rest .ok [] s t ∧
      OnlyChanges [.bus, .faults, .command, .uplink] s t ∧
      t.bus =
        { s.bus with
          slots := s.bus.slots.set slot { s.bus.slots.get slot with fencedAborts := 0, downAborts := 0 } } ∧
      t.faults = { s.faults with summaries := s.faults.summaries.set slot 0 }

/-- AUTOFENCE_ON and AUTOFENCE_OFF set the slot's Autofence and leave Fenced and every line alone; with Autofence no, each
access refused by translation is recorded with Fenced no, and the slot is not fenced. The model's own choices here: a
command credit past 8 is free (log 13); only the owner presents, REQ is an operand (log 17); SLOT_PRESENTATION reports the
lock flag first and reads the window after it (log 26). -/
def Obligations.AutofenceIsSetAndRead : Prop :=
  (∀ (e : CommandEntry) (rest : List CommandEntry) (slot : Slot) (on : Bool) (i : Instr) (s : State),
    ((on = true ∧ i = .slotControlAutofenceOn ∧ Heads s e rest (.slotControl slot .autofenceOn)) ∨
      (on = false ∧ i = .slotControlAutofenceOff ∧ Heads s e rest (.slotControl slot .autofenceOff))) →
    ∃ t, exec i s = .next t ∧ CreditReturned s t ∧ Replied e rest .ok [] s t ∧ OnlyChanges [.bus, .command, .uplink] s t ∧
      t.bus = { s.bus with slots := s.bus.slots.set slot { s.bus.slots.get slot with autofence := on } }) ∧
  ∀ (slot : Slot) (a : CardAddr) (x : Transfer) (lock : Bool) (k : FaultKind) (s r : State), Presents slot a x lock s r →
    PassesGates slot r → (r.bus.slots.get slot).autofence = false →
    translate r.pageMap slot a (writes x) lock = .refused k →
    ∃ t, exec (.slotPresentation slot (.memory a) x lock) s = .next t ∧ OnlyChanges [.bus, .faults] r t ∧
      t.bus.slots = r.bus.slots ∧
      FaultTaken { kind := k, slot := some slot, cardAddress := some a } false r t

/-- MASK withdraws a PENDING event and leaves a SENT one; UNMASK raises an event if the line calls for it. The model's own
choices here: the order in which several lines close is free (log 7); a completed drain is held until it is reported (log
8); a command credit past 8 is free (log 13). -/
def Obligations.MaskAndUnmaskEvents : Prop :=
  (∀ (e : CommandEntry) (rest : List CommandEntry) (slot : Slot) (s : State), Heads s e rest (.slotControl slot .mask) →
    ∃ t, exec .slotControlMask s = .next t ∧ CreditReturned s t ∧ Replied e rest .ok [] s t ∧
      OnlyChanges [.events, .staging, .command, .uplink] s t ∧ t.events.offered = s.events.offered ∧
      t.events.lines = s.events.lines ∧ (∀ x, x ≠ slot → eventAt x t = eventAt x s) ∧
      t.staging = { s.staging with slotDrains := t.staging.slotDrains } ∧
      ((∃ d, (eventAt slot s).state = .pending d) →
        eventAt slot t =
          { state := .idle
            seq := if (eventAt slot s).resend then (eventAt slot s).seq + 1 else (eventAt slot s).seq
            resend := false
            masked := true } ∧ EventDrainDropped slot s t) ∧
      ((∀ d, (eventAt slot s).state ≠ .pending d) →
        eventAt slot t = { eventAt slot s with masked := true } ∧ t.staging = s.staging)) ∧
  ∀ (e : CommandEntry) (rest : List CommandEntry) (slot : Slot) (s u : State),
    Heads s e rest (.slotControl slot .unmask) → u = setEvent slot { eventAt slot s with masked := false } s →
    ∃ t, exec .slotControlUnmask s = .next t ∧ CreditReturned s t ∧ Replied e rest .ok [] s t ∧
      OnlyChanges [.events, .staging, .command, .uplink] s t ∧ t.events.lines = s.events.lines ∧
      (Raisable slot u → Raised slot u t) ∧ (¬ Raisable slot u → t.events = u.events ∧ t.staging = s.staging)

/-! ### Downstream access and the host lock -/

/-- CARD_READ and CARD_WRITE at execution: an address now in the window is refused BAD_ARGUMENT, a disabled slot's identity
space SLOT_DISABLED; else the access requests the bus, or presents at once under a HELD host lock. The model's own choices
here: time counts in units of 0.5 µs (log 3); a command credit past 8 is free (log 13); which cards may claim a presentation
(log 31). -/
def Obligations.CardAccessStarts : Prop :=
  ∀ (e : CommandEntry) (rest : List CommandEntry) (write : Bool) (i : Instr) (f : AccessFields) (data : List Byte)
    (s : State),
    ((write = false ∧ i = .cardRead ∧ data = [] ∧ Heads s e rest (.cardRead f)) ∨
      (write = true ∧ i = .cardWrite ∧ Heads s e rest (.cardWrite f data))) →
    ∃ t, exec i s = .next t ∧ CreditReturned s t ∧
      (accessInWindow s.pageMap f = true →
        OnlyChanges [.command, .uplink] s t ∧ Replied e rest .badArgument [] s t) ∧
      (∀ slot, f.space = .identity → f.slot = some slot → (s.bus.slots.get slot).enabled = false →
        OnlyChanges [.command, .uplink] s t ∧ Replied e rest .slotDisabled [] s t) ∧
      (accessInWindow s.pageMap f = false →
        (∀ slot, f.space = .identity → f.slot = some slot → (s.bus.slots.get slot).enabled = true) →
        OnlyChanges [.master, .bus, .command, .uplink] s t ∧ Waits e rest .bus s t ∧
        t.master =
          { s.master with
            access :=
              some
                { tag := e.tag, write := write, space := f.space, slot := f.slot, address := f.address,
                  length := f.length, data := data, bytesDone := 0, retryCount := 0, retryLimit := s.master.retryLimit,
                  phase := if lockHeld s = true then .presenting else .requesting } } ∧
        t.bus =
          if lockHeld s = true then
            { s.bus with deadline := some (s.now + 4), claimants := claimants f.space f.slot s }
          else s.bus)

/-- LOCK_OPEN in FREE starts to acquire the bus, and in HELD replies OK without restarting the limit. The model's own
choices here: a command credit past 8 is free (log 13). -/
def Obligations.LockOpenAcquires : Prop :=
  ∀ (e : CommandEntry) (rest : List CommandEntry) (s : State), Heads s e rest .lockOpen →
    ∃ t, exec .lockOpen s = .next t ∧ CreditReturned s t ∧
      (s.locks.hostLock = .free →
        OnlyChanges [.locks, .command, .uplink] s t ∧ t.locks = { s.locks with hostLock := .acquiring } ∧
        Waits e rest .bus s t) ∧
      (∀ d, s.locks.hostLock = .held d → OnlyChanges [.command, .uplink] s t ∧ Replied e rest .ok [] s t)

/-- LOCK_CLOSE with argument bytes is refused BAD_ARGUMENT on arrival. At execution it ends a HELD host lock, drops the lock
flag and releases the bus, with the reply OK; in FREE it is answered NOT_HELD. The model's own choices here: Unacknowledged
stops at 4 (log 12); a command credit past 8 is free (log 13). -/
def Obligations.LockCloseReleases : Prop :=
  (∀ (e : CommandEntry) (rest : List CommandEntry) (s : State), Heads s e rest .lockClose →
    ∃ t, exec .lockClose s = .next t ∧ CreditReturned s t ∧
      (∀ d, s.locks.hostLock = .held d → s.bus.owner = .master →
        OnlyChanges [.locks, .bus, .command, .uplink] s t ∧ t.locks = { s.locks with hostLock := .free } ∧
        t.bus = { s.bus with owner := .none, masterLock := false, deadline := none } ∧ Replied e rest .ok [] s t) ∧
      (s.locks.hostLock = .free → OnlyChanges [.command, .uplink] s t ∧ Replied e rest .notHeld [] s t)) ∧
  ∀ (seq ackSeq : SeqNo) (t1 t0 reserved x : Byte) (xs : List Byte) (s : State), InOrder seq ackSeq s → xs.length ≤ 131 →
    s.command.queue.length < 8 → s.command.replies.length ≤ 6 →
    tagInUse (BitVec.ofNat 16 (u16 t1 t0)) s.command = false →
    ∃ t, exec (.commandReceived seq ackSeq ([t1, t0, 0x0B, reserved] ++ x :: xs)) s = .next t ∧
      OnlyChanges [.command, .uplink] s t ∧ AcceptedWithCredit s t ∧
      t.command =
        { s.command with
          replies := s.command.replies ++ [.reply (BitVec.ofNat 16 (u16 t1 t0)) 0x0B .badArgument []] }

/-- BRIDGE_RESET: the reply, RESETTING, the queue emptied, every block but the Uplink Port at its bridge-reset values, the
INT levels kept, and one DISCARD record behind the emptied fault queue. The model's own choices here: a command credit past
8 is free (log 13); the values at reset that the spec does not give and the INIT interval (log 16). -/
def Obligations.BridgeResetResetsBlocks : Prop :=
  ∀ (e : CommandEntry) (rest : List CommandEntry) (s : State), Heads s e rest .bridgeReset →
    ∃ t, exec .bridgeReset s = .next t ∧ t.now = s.now ∧ t.pending = s.pending ∧
      t.command =
        { queue := [], executing := none, resetting := true,
          replies := s.command.replies ++ [.reply e.tag e.code .ok []] } ∧
      (∃ n, t.uplink = { s.uplink with pendingCredits := n }) ∧
      (s.uplink.pendingCredits + rest.length < 8 →
        t.uplink.pendingCredits = s.uplink.pendingCredits + 1 + rest.length) ∧
      (t.pageMap.on = false ∧ t.pageMap.base = s.pageMap.base ∧
        ∀ i, t.pageMap.entries.get i = ⟨false, 0, .none, 0, .buffered, (s.pageMap.entries.get i).epoch⟩) ∧
      t.staging = Staging.reset ∧
      ((∀ i, t.tracker.tags.get i =
          match (s.tracker.tags.get i).state with
          | .free => s.tracker.tags.get i
          | _ => ⟨.free, (s.tracker.tags.get i).generation + 1⟩) ∧
        t.tracker.requestQueue = [] ∧ t.tracker.posted = [] ∧ t.tracker.nextPosted = s.tracker.nextPosted ∧
        t.tracker.writeHold = false ∧ t.tracker.holdHigh = 12 ∧ t.tracker.holdLow = 4 ∧ t.tracker.readTimeout = 20) ∧
      t.bus = { SlotBus.reset with answer := s.bus.answer } ∧ t.locks = LockUnit.reset ∧ t.master = BridgeMaster.reset ∧
      t.events = { EventUnit.reset with lines := s.events.lines } ∧
      t.faults.queue =
        [{ seq := s.faults.nextSeq
           report :=
             { kind := .discard
               discard := some
                 { cause := .bridgeReset, writes := writesHeld s, reads := busyTags s, commands := rest.length } }
           fenced := false
           lostBefore := BitVec.ofNat 16 (min 65535 (s.faults.dropped.toNat + s.faults.queue.length)) }] ∧
      t.faults.dropped = 0 ∧ t.faults.nextSeq = s.faults.nextSeq + 1 ∧ ∀ slot, t.faults.summaries.get slot = 0

/-! ### Presentations by slots -/

/-- The window gates in their order: a slot not enabled, in reset or fenced is aborted and counted; then a link that is not
UP; else translation decides and neither count moves. Row by row the first that applies, and an aborted presentation touches
nothing but its count. The model's own choices here: only the owner presents, REQ is an operand (log 17); SLOT_PRESENTATION
reports the lock flag first and reads the window after it (log 26). -/
def Obligations.WindowGatesAbortAndCount : Prop :=
  ∀ (slot : Slot) (a : CardAddr) (x : Transfer) (lock : Bool) (s r : State), Presents slot a x lock s r →
    ∃ t, exec (.slotPresentation slot (.memory a) x lock) s = .next t ∧
      ((r.bus.slots.get slot).enabled = false ∨ (r.bus.slots.get slot).resetDeadline ≠ none ∨
          (r.bus.slots.get slot).fenced = true →
        OnlyChanges [.bus] r t ∧ BusAnswered slot a x .abort r t ∧
        t.bus.slots =
          r.bus.slots.set slot
            { r.bus.slots.get slot with fencedAborts := satInc (r.bus.slots.get slot).fencedAborts }) ∧
      ((r.bus.slots.get slot).enabled = true → (r.bus.slots.get slot).resetDeadline = none →
        (r.bus.slots.get slot).fenced = false → r.uplink.linkState ≠ .up →
        OnlyChanges [.bus] r t ∧ BusAnswered slot a x .abort r t ∧
        t.bus.slots =
          r.bus.slots.set slot
            { r.bus.slots.get slot with downAborts := satInc (r.bus.slots.get slot).downAborts }) ∧
      (PassesGates slot r →
        t =
          respond slot x.length (blockLength a x)
            (translateAndServe slot a (cutTransfer (blockLength a x) x) lock r).1
            (translateAndServe slot a (cutTransfer (blockLength a x) x) lock r).2 ∧
        ∀ y, (t.bus.slots.get y).fencedAborts = (r.bus.slots.get y).fencedAborts ∧
          (t.bus.slots.get y).downAborts = (r.bus.slots.get y).downAborts)

/-- The checks of translation in their order: an access refused is answered ABORT and recorded with its slot and card
address, and touches nothing else, but for the fence that Autofence brings; an access that passes is handed on. The model's
own choices here: the order in which several lines close is free (log 7); only the owner presents, REQ is an operand (log
17); SLOT_PRESENTATION reports the lock flag first and reads the window after it (log 26). -/
def Obligations.TranslationRefusesInOrder : Prop :=
  ∀ (slot : Slot) (a : CardAddr) (x : Transfer) (lock : Bool) (s r : State) (e : MapEntry), Presents slot a x lock s r →
    PassesGates slot r → e = r.pageMap.entries.get (entryIndex r.pageMap a) →
    (∀ k : FaultKind,
      ((e.valid = false ∧ k = .mapMiss) ∨
        (e.valid = true ∧ slotIn e.slots slot = false ∧ k = .slotDenied) ∨
        (e.valid = true ∧ slotIn e.slots slot = true ∧ e.access.permits (writes x) lock = false ∧ k = .accessDenied)) →
      ∃ t, exec (.slotPresentation slot (.memory a) x lock) s = .next t ∧
        OnlyChanges [.bus, .faults, .staging] r t ∧ BusAnswered slot a x .abort r t ∧
        FaultTaken { kind := k, slot := some slot, cardAddress := some a } (r.bus.slots.get slot).autofence r t ∧
        ((r.bus.slots.get slot).autofence = true → SlotFenced slot r t ∧ t.staging.slotDrains = r.staging.slotDrains) ∧
        ((r.bus.slots.get slot).autofence = false → t.bus.slots = r.bus.slots ∧ t.staging = r.staging)) ∧
    (e.valid = true → slotIn e.slots slot = true → e.access.permits (writes x) lock = true →
      ∃ tr out, translate r.pageMap slot a (writes x) lock = .passed tr ∧
        out = serve tr (cutTransfer (blockLength a x) x) lock r ∧
        exec (.slotPresentation slot (.memory a) x lock) s =
          .next (respond slot x.length (blockLength a x) out.1 out.2))

/-- An unlocked read that misses is answered RETRY, buffered, below the ConsumePointer of its VALID line, or direct: the
lines that it gives up are freed; while the slot has untransmitted writes a slot drain begins and nothing is allocated; with
no FREE tag, or no line to be had, nothing more happens; else the lowest FREE line, or one that the slot's quota or the LRU
order reclaims, is bound FETCHING under the lowest FREE tag, and its MEM_READ joins the request queue. The model's own
choices here: the order in which several lines close is free (log 7); a completed drain is held until it is reported (log
8); only the owner presents, REQ is an operand (log 17); SLOT_PRESENTATION reports the lock flag first and reads the window
after it (log 26). -/
def Obligations.ReadMissFetchesLine : Prop :=
  ∀ (slot : Slot) (a : CardAddr) (n : Nat) (tr : Translation) (direct : Bool) (f : FetchSpan) (readStart : Option Nat)
    (s r u : State), Translates slot a (.read n) false tr s r →
    Misses direct tr (blockLength a (.read n)) f readStart r → u = gaveUp (givenUp direct slot tr.hostLine r) r →
    (untransmitted slot r = true →
      ∃ t, exec (.slotPresentation slot (.memory a) (.read n) false) s = .next t ∧ OnlyChanges [.bus, .staging] r t ∧
        BusAnswered slot a (.read n) .retry r t ∧ t.bus.slots = r.bus.slots ∧ LinesShut (boundTo slot) u t ∧
        SettingsKept r t ∧ MarksKept r t ∧
        ∀ y, t.staging.slotDrains.get y =
          if y = slot then { r.staging.slotDrains.get y with unowned := .running } else r.staging.slotDrains.get y) ∧
    (untransmitted slot r = false → NoLineOrTag slot u →
      ∃ t, exec (.slotPresentation slot (.memory a) (.read n) false) s = .next t ∧ OnlyChanges [.bus, .staging] r t ∧
        BusAnswered slot a (.read n) .retry r t ∧ t.bus.slots = r.bus.slots ∧ t.staging = u.staging) ∧
    ∀ (i : LineIx) (k : TagIx) (q : Request) (v : State), untransmitted slot r = false → TakesLine slot i u v →
      lowestFreeTag r = some k →
      q =
        { purpose := .lineFetch i, hostAddress := tr.hostLine + BitVec.ofNat 48 f.start, length := f.stop - f.start,
          slot := slot } →
      ∃ t, exec (.slotPresentation slot (.memory a) (.read n) false) s = .next t ∧
        OnlyChanges [.bus, .staging, .tracker] r t ∧ BusAnswered slot a (.read n) .retry r t ∧
        t.bus.slots = r.bus.slots ∧ t.tracker = allocated k q r.tracker ∧
        t.staging =
          { v.staging with
            lines :=
              v.staging.lines.set i
                (.fetching ⟨slot, tr.hostLine, tr.mapIndex, tr.epoch⟩ f readStart false
                  ⟨k, (r.tracker.tags.get k).generation⟩)
            lru := v.staging.lru.filter (· ≠ i) }

/-- A buffered read of a current VALID line at or past its ConsumePointer is served COMPLETE and consumes the line, whether
or not the slot has untransmitted writes; where read-ahead is off or one of its conditions fails nothing is fetched, and
with it on and its conditions met the next host line is fetched. A direct read is served from its VALID direct line, which
becomes FREE; a read of either kind that meets an ERROR line is aborted and frees it, and one whose line is still FETCHING
is answered RETRY; each closes the slot's GATHERING line. The model's own choices here: the order in which several lines
close is free (log 7); only the owner presents, REQ is an operand (log 17); SLOT_PRESENTATION reports the lock flag first
and reads the window after it (log 26). -/
def Obligations.ReadHitConsumesLine : Prop :=
  (∀ (slot : Slot) (a : CardAddr) (n c : Nat) (tr : Translation) (i : LineIx) (b : Binding) (f : FetchSpan)
    (fetched : List Byte) (s r u : State), Translates slot a (.read n) false tr s r →
    tr.mode = .buffered → r.staging.buffering = true → findLine (validFor false slot tr.hostLine r) r = some i →
    lineAt i r = .valid b f fetched c → c ≤ tr.offset →
    u = setLine i
      (if tr.offset + blockLength a (.read n) = 64 then .free
      else .valid b f fetched (tr.offset + blockLength a (.read n))) r →
    ∃ t, exec (.slotPresentation slot (.memory a) (.read n) false) s = .next t ∧
      BusAnswered slot a (.read n)
        (.complete ((fetched.drop (tr.offset - f.start)).take (blockLength a (.read n)))) r t ∧
      t.bus.slots = r.bus.slots ∧
      (NoReadAhead slot tr.hostLine (tr.offset + blockLength a (.read n)) u →
        OnlyChanges [.bus, .staging] r t ∧ LinesShut (boundTo slot) u t ∧ DrainsKept r t) ∧
      ∀ (j : LineIx) (k : TagIx), ¬ NoReadAhead slot tr.hostLine (tr.offset + blockLength a (.read n)) u →
        findLine Line.isFree u = some j → lowestFreeTag u = some k →
        OnlyChanges [.bus, .staging, .tracker] r t ∧
        t.tracker =
          allocated k { purpose := .lineFetch j, hostAddress := tr.hostLine + 64, length := 64, slot := slot } r.tracker ∧
        t.staging =
          { u.staging with
            lines :=
              u.staging.lines.set j
                (.fetching { b with hostLine := tr.hostLine + 64 } ⟨false, 0, 64⟩ none false
                  ⟨k, (r.tracker.tags.get k).generation⟩)
            lru := u.staging.lru.filter (· ≠ j) }) ∧
  (∀ (slot : Slot) (a : CardAddr) (n : Nat) (tr : Translation) (i : LineIx) (ans : Answer) (s r : State),
    Translates slot a (.read n) false tr s r → LineAnswers tr (blockLength a (.read n)) i ans r →
    ∃ t, exec (.slotPresentation slot (.memory a) (.read n) false) s = .next t ∧ OnlyChanges [.bus, .staging] r t ∧
      BusAnswered slot a (.read n) ans r t ∧ t.bus.slots = r.bus.slots ∧ SettingsKept r t ∧ MarksKept r t ∧
      t.staging.slotDrains = r.staging.slotDrains ∧ ClosedAppended (boundTo slot) r t ∧ lineAt i t = .free ∧
      (∀ j, j ≠ i → lineAt j t = shut (boundTo slot) (lineAt j r)) ∧
      t.staging.lru = r.staging.lru.filter (· ≠ i)) ∧
  ∀ (slot : Slot) (a : CardAddr) (n : Nat) (tr : Translation) (s r : State), Translates slot a (.read n) false tr s r →
    AwaitsFetch tr (blockLength a (.read n)) r →
    ∃ t, exec (.slotPresentation slot (.memory a) (.read n) false) s = .next t ∧ OnlyChanges [.bus, .staging] r t ∧
      BusAnswered slot a (.read n) .retry r t ∧ t.bus.slots = r.bus.slots ∧ SettingsKept r t ∧ MarksKept r t ∧
      t.staging.slotDrains = r.staging.slotDrains ∧ LinesShut (boundTo slot) r t

/-- An unlocked write, buffered: under write hold it is answered RETRY and changes nothing; else the slot's read lines for
its host line are freed, and it is merged into the slot's GATHERING line for that host line, or the slot's GATHERING line is
closed and a new line bound, the lowest FREE one or the least recent reclaimable one; RETRY while a closed line of the slot
for that host line stands, or with no line to be had; a line that becomes full is closed. Direct: the slot's GATHERING line
is closed; RETRY under write hold; else the read lines are freed, and the write joins the posted-write queue where no closed
line stands before it and there is room, and is answered RETRY otherwise. Bytes that no write has supplied are free (log 6).
The model's own choices here: bytes that no write supplied are free (log 6); time counts in units of 0.5 µs (log 3); the
order in which several lines close is free (log 7); only the owner presents, REQ is an operand (log 17); SLOT_PRESENTATION
reports the lock flag first and reads the window after it (log 26). -/
def Obligations.UnlockedWritesAreAccepted : Prop :=
  (∀ (slot : Slot) (a : CardAddr) (bytes : List Byte) (tr : Translation) (s r : State),
    Translates slot a (.write bytes) false tr s r → tr.mode = .buffered → r.staging.buffering = true →
    r.tracker.writeHold = true →
    ∃ t, exec (.slotPresentation slot (.memory a) (.write bytes) false) s = .next t ∧ OnlyChanges [.bus] r t ∧
      BusAnswered slot a (.write bytes) .retry r t ∧ t.bus.slots = r.bus.slots) ∧
  (∀ (slot : Slot) (a : CardAddr) (bytes : List Byte) (tr : Translation) (i : LineIx) (b : Binding)
    (data : Table Byte 64) (v : BitVec 64) (d : Time) (s r : State),
    Translates slot a (.write bytes) false tr s r → tr.mode = .buffered → r.staging.buffering = true →
    r.tracker.writeHold = false → findLine (gatheringFor slot tr.hostLine r) r = some i →
    lineAt i r = .gathering b data v d →
    ∃ t, exec (.slotPresentation slot (.memory a) (.write bytes) false) s = .next t ∧ OnlyChanges [.bus, .staging] r t ∧
      BusAnswered slot a (.write bytes) (.complete []) r t ∧ t.bus.slots = r.bus.slots ∧ DrainsKept r t ∧
      t.staging.lru = r.staging.lru.filter (fun j => !(lineAt j r).ofSlotLine slot tr.hostLine) ∧
      (∀ j, j ≠ i → (lineAt j r).isRead = true → lineAt j t = quieted (boundToLine slot tr.hostLine) (lineAt j r)) ∧
      (∀ j, j ≠ i → (lineAt j r).isRead = false → lineAt j t = lineAt j r) ∧
      (v ||| byteSpan tr.offset (min bytes.length (64 - a.toNat % 64)) ≠ BitVec.allOnes 64 →
        lineAt i t =
          .gathering b (mergeBytes data tr.offset (bytes.take (min bytes.length (64 - a.toNat % 64))))
            (v ||| byteSpan tr.offset (min bytes.length (64 - a.toNat % 64))) (r.now + r.staging.gatherIdle) ∧
        t.staging.closedOrder = r.staging.closedOrder) ∧
      (v ||| byteSpan tr.offset (min bytes.length (64 - a.toNat % 64)) = BitVec.allOnes 64 →
        lineAt i t =
          .closed b (mergeBytes data tr.offset (bytes.take (min bytes.length (64 - a.toNat % 64))))
            (BitVec.allOnes 64) ∧
        t.staging.closedOrder = r.staging.closedOrder ++ [i])) ∧
  (∀ (slot : Slot) (a : CardAddr) (bytes w : List Byte) (tr : Translation) (s r u : State),
    Translates slot a (.write bytes) false tr s r → tr.mode = .buffered → r.staging.buffering = true →
    r.tracker.writeHold = false → findLine (gatheringFor slot tr.hostLine r) r = none →
    w = bytes.take (blockLength a (.write bytes)) → u = gaveUp (Line.ofSlotLine slot tr.hostLine) r →
    ∃ t, exec (.slotPresentation slot (.memory a) (.write bytes) false) s = .next t ∧ OnlyChanges [.bus, .staging] r t ∧
      t.bus.slots = r.bus.slots ∧ DrainsKept r t ∧
      (WriteLineStands slot tr.hostLine u ∨ NoWriteLine u →
        BusAnswered slot a (.write bytes) .retry r t ∧ LinesShut (boundTo slot) u t) ∧
      ∀ i, ¬ WriteLineStands slot tr.hostLine u → TakesWriteLine i u →
        BusAnswered slot a (.write bytes) (.complete []) r t ∧
        (∀ j, j ≠ i → lineAt j t = shut (boundTo slot) (lineAt j u)) ∧
        t.staging.lru = u.staging.lru.filter (· ≠ i) ∧
        ∃ open' : Table Byte 64,
          (byteSpan tr.offset w.length ≠ BitVec.allOnes 64 →
            lineAt i t =
              .gathering ⟨slot, tr.hostLine, tr.mapIndex, tr.epoch⟩ (mergeBytes open' tr.offset w)
                (byteSpan tr.offset w.length) (r.now + r.staging.gatherIdle) ∧
            ClosedAppended (boundTo slot) u t) ∧
          (byteSpan tr.offset w.length = BitVec.allOnes 64 →
            lineAt i t =
              .closed ⟨slot, tr.hostLine, tr.mapIndex, tr.epoch⟩ (mergeBytes open' tr.offset w) (BitVec.allOnes 64) ∧
            ∃ order : List LineIx, order.Perm (gatheringWhere (boundTo slot) u) ∧
              t.staging.closedOrder = u.staging.closedOrder ++ order ++ [i])) ∧
  ∀ (slot : Slot) (a : CardAddr) (bytes w : List Byte) (tr : Translation) (s r u : State),
    Translates slot a (.write bytes) false tr s r → (tr.mode = .direct ∨ r.staging.buffering = false) →
    w = bytes.take (blockLength a (.write bytes)) → u = gaveUp (Line.ofSlotLine slot tr.hostLine) r →
    ∃ t, exec (.slotPresentation slot (.memory a) (.write bytes) false) s = .next t ∧ t.bus.slots = r.bus.slots ∧
      (r.tracker.writeHold = true →
        OnlyChanges [.bus, .staging] r t ∧ BusAnswered slot a (.write bytes) .retry r t ∧
        LinesShut (boundTo slot) r t ∧ DrainsKept r t) ∧
      (r.tracker.writeHold = false → WriteMustWait slot r →
        OnlyChanges [.bus, .staging] r t ∧ BusAnswered slot a (.write bytes) .retry r t ∧
        LinesShut (boundTo slot) u t ∧ DrainsKept r t) ∧
      (r.tracker.writeHold = false → ¬ WriteMustWait slot r →
        OnlyChanges [.bus, .staging, .tracker] r t ∧ BusAnswered slot a (.write bytes) (.complete []) r t ∧
        t.staging = u.staging ∧
        ∃ open' : Table Byte 64, t.tracker =
          joined slot (.write (byteSpan tr.offset w.length) (mergeBytes open' tr.offset w)) tr.hostAddress false r.tracker)

/-- A locked access while no episode is in progress quiets the slot's lines; a slot in AbortNext is aborted and taken out of
it, and any other begins an episode, whose EXCL_BEGIN is queued at once if the slot has no untransmitted writes and a tag is
FREE, and waits for the slot drain or for a tag otherwise. A later one of the episode's slot quiets its lines and is
answered RETRY in REQUESTED and ABORT in ABANDONING, and changes nothing else. The model's own choices here: time counts in
units of 0.5 µs (log 3); the order in which several lines close is free (log 7); a completed drain is held until it is
reported (log 8); only the owner presents, REQ is an operand (log 17); SLOT_PRESENTATION reports the lock flag first and
reads the window after it (log 26). -/
def Obligations.LockedAccessBeginsEpisode : Prop :=
  (∀ (slot : Slot) (a : CardAddr) (x : Transfer) (tr : Translation) (s r : State), Translates slot a x true tr s r →
    r.locks.episode = none →
    ∃ t, exec (.slotPresentation slot (.memory a) x true) s = .next t ∧ LinesQuieted (boundTo slot) r t ∧
      SettingsKept r t ∧ MarksKept r t ∧ t.bus.slots = r.bus.slots ∧
      (slotIn r.locks.abortNext slot = true →
        OnlyChanges [.bus, .staging, .locks] r t ∧ BusAnswered slot a x .abort r t ∧
        t.staging.slotDrains = r.staging.slotDrains ∧
        t.locks = { r.locks with abortNext := r.locks.abortNext &&& ~~~ slotBit slot }) ∧
      (slotIn r.locks.abortNext slot = false →
        BusAnswered slot a x .retry r t ∧ OnlyChanges [.bus, .staging, .locks, .tracker] r t ∧
        (∀ y, t.staging.slotDrains.get y =
          if y = slot then
            { r.staging.slotDrains.get y with episode := if untransmitted slot r = true then .running else .idle }
          else r.staging.slotDrains.get y) ∧
        (untransmitted slot r = true ∨ lowestFreeTag r = none →
          t.tracker = r.tracker ∧
          t.locks =
            { r.locks with
              episode :=
                some
                  { state := .requested, slot := slot, hostAddress := tr.hostAddress, beginQueued := false,
                    beginTag := none, limit := some (r.now + 2 * r.locks.episodeLimit), heldRead := none,
                    endPending := false } }) ∧
        ∀ k, untransmitted slot r = false → lowestFreeTag r = some k →
          t.tracker =
            allocated k { purpose := .exclBegin, hostAddress := tr.hostAddress, length := 0, slot := slot } r.tracker ∧
          t.locks =
            { r.locks with
              episode :=
                some
                  { state := .requested, slot := slot, hostAddress := tr.hostAddress, beginQueued := true,
                    beginTag := some ⟨k, (r.tracker.tags.get k).generation⟩,
                    limit := some (r.now + 2 * r.locks.episodeLimit), heldRead := none, endPending := false } })) ∧
  ∀ (slot : Slot) (a : CardAddr) (x : Transfer) (tr : Translation) (e : Episode) (s r : State),
    Translates slot a x true tr s r → r.locks.episode = some e → e.slot = slot →
    ∃ t, exec (.slotPresentation slot (.memory a) x true) s = .next t ∧ LockedEffects slot r t ∧
      (e.state = .requested → OnlyChanges [.bus, .staging] r t ∧ BusAnswered slot a x .retry r t) ∧
      (e.state = .abandoning → OnlyChanges [.bus, .staging] r t ∧ BusAnswered slot a x .abort r t)

/-- Locked accesses of the episode's slot in OPEN: a read whose result is held is served with it, or aborted if it failed; a
read with none in progress, or with the result of another, which is dropped, fetches once its slot has no posted entry and a
tag is FREE; a write joins the posted-write queue with Locked yes. Each is answered RETRY while an EXCL_END or a HeldRead's
result is awaited, a write also under write hold, behind a closed line and while the queue is full. The result of a
LOCKED_READ tag, by MEM_DATA or the read timeout, retires the tag, records a failure, and stands in the HeldRead of that
tag, or is dropped; in ABANDONING it removes the HeldRead and brings the EXCL_END. The model's own choices here: an expiry
moves the present time to its deadline (log 4); bytes that no write supplied are free (log 6); the order in which several
lines close is free (log 7); Unacknowledged stops at 4 (log 12); only the owner presents, REQ is an operand (log 17);
SLOT_PRESENTATION reports the lock flag first and reads the window after it (log 26). -/
def Obligations.OpenEpisodeServesLockedAccess : Prop :=
  (∀ (slot : Slot) (a : CardAddr) (n : Nat) (tr : Translation) (e : Episode) (h : HeldRead) (ans : Answer)
    (s r : State), Translates slot a (.read n) true tr s r → r.locks.episode = some e → e.slot = slot →
    e.state = .opened → e.endPending = false → e.heldRead = some h → h.hostAddress = tr.hostAddress →
    h.offset = tr.offset → h.length = blockLength a (.read n) →
    ((∃ bytes, h.result = .data bytes ∧
        ans = .complete ((bytes.drop (tr.offset % 4)).take (blockLength a (.read n)))) ∨
      (h.result = .error ∧ ans = .abort)) →
    ∃ t, exec (.slotPresentation slot (.memory a) (.read n) true) s = .next t ∧ OnlyChanges [.bus, .staging, .locks] r t ∧
      BusAnswered slot a (.read n) ans r t ∧ LockedEffects slot r t ∧
      t.locks = { r.locks with episode := some { e with heldRead := none } }) ∧
  (∀ (slot : Slot) (a : CardAddr) (n : Nat) (tr : Translation) (e : Episode) (s r : State),
    Translates slot a (.read n) true tr s r → r.locks.episode = some e → e.slot = slot → e.state = .opened →
    e.endPending = true ∨ (∃ h, e.heldRead = some h ∧ h.result = .waiting) →
    ∃ t, exec (.slotPresentation slot (.memory a) (.read n) true) s = .next t ∧ OnlyChanges [.bus, .staging] r t ∧
      BusAnswered slot a (.read n) .retry r t ∧ LockedEffects slot r t) ∧
  (∀ (slot : Slot) (a : CardAddr) (n : Nat) (tr : Translation) (e : Episode) (s r : State),
    Translates slot a (.read n) true tr s r → r.locks.episode = some e → e.slot = slot → e.state = .opened →
    e.endPending = false → HeldReadIsPast e tr (blockLength a (.read n)) →
    ∃ t, exec (.slotPresentation slot (.memory a) (.read n) true) s = .next t ∧ BusAnswered slot a (.read n) .retry r t ∧
      LockedEffects slot r t ∧
      (hasPosted slot r = true ∨ lowestFreeTag r = none →
        OnlyChanges [.bus, .staging, .locks] r t ∧
        t.locks = { r.locks with episode := some { e with heldRead := none } }) ∧
      ∀ k, hasPosted slot r = false → lowestFreeTag r = some k →
        OnlyChanges [.bus, .staging, .locks, .tracker] r t ∧
        t.tracker =
          allocated k
            { purpose := .lockedRead, hostAddress := tr.hostLine + BitVec.ofNat 48 (tr.offset / 4 * 4),
              length := (tr.offset + blockLength a (.read n) + 3) / 4 * 4 - tr.offset / 4 * 4, slot := slot } r.tracker ∧
        t.locks =
          { r.locks with
            episode :=
              some
                { e with
                  heldRead :=
                    some
                      { hostAddress := tr.hostAddress, offset := tr.offset, length := blockLength a (.read n),
                        tag := ⟨k, (r.tracker.tags.get k).generation⟩, result := .waiting } } }) ∧
  (∀ (slot : Slot) (a : CardAddr) (bytes w : List Byte) (tr : Translation) (e : Episode) (s r : State),
    Translates slot a (.write bytes) true tr s r → r.locks.episode = some e → e.slot = slot → e.state = .opened →
    w = bytes.take (blockLength a (.write bytes)) →
    ∃ t, exec (.slotPresentation slot (.memory a) (.write bytes) true) s = .next t ∧ LockedEffects slot r t ∧
      (e.endPending = true ∨ (∃ h, e.heldRead = some h ∧ h.result = .waiting) ∨ r.tracker.writeHold = true ∨
          WriteMustWait slot r →
        OnlyChanges [.bus, .staging] r t ∧ BusAnswered slot a (.write bytes) .retry r t) ∧
      (e.endPending = false → (∀ h, e.heldRead = some h → h.result ≠ .waiting) → r.tracker.writeHold = false →
        ¬ WriteMustWait slot r →
        OnlyChanges [.bus, .staging, .locks, .tracker] r t ∧ BusAnswered slot a (.write bytes) (.complete []) r t ∧
        t.locks = { r.locks with episode := some { e with heldRead := none } } ∧
        ∃ open' : Table Byte 64, t.tracker =
          joined slot (.write (byteSpan tr.offset w.length) (mergeBytes open' tr.offset w)) tr.hostAddress true
            r.tracker)) ∧
  ∀ (c : Instr) (i : TagIx) (q : Request) (d time : Time) (result : FetchResult) (e : Episode) (s : State),
    (s.tracker.tags.get i).state = .outstanding q d → q.purpose = .lockedRead → TagEnds c i q d result time s →
    s.locks.episode = some e → (e.state = .abandoning → NoneWaitsForEpisode s) →
    ∃ t, exec c s = .next t ∧ OnlyChanges [.uplink, .faults, .tracker, .locks, .time] s t ∧ t.now = time ∧
      t.uplink = (match c with | .memDataReceived .. => acceptedUplink s | _ => s.uplink) ∧
      ResultReported i q result s t ∧
      ((∀ h, e.heldRead = some h → h.tag ≠ ⟨i, (s.tracker.tags.get i).generation⟩) →
        t.tracker = tagRetired i s.tracker ∧ t.locks = s.locks) ∧
      (∀ h, e.heldRead = some h → h.tag = ⟨i, (s.tracker.tags.get i).generation⟩ → e.state ≠ .abandoning →
        t.tracker = tagRetired i s.tracker ∧
        t.locks =
          { s.locks with
            episode :=
              some
                { e with
                  heldRead :=
                    some
                      { h with result := match result with | .data bytes => .data bytes | .error _ => .error } } }) ∧
      ∀ h, e.heldRead = some h → h.tag = ⟨i, (s.tracker.tags.get i).generation⟩ → e.state = .abandoning →
        e.endPending = false → e.beginTag = none →
        (s.tracker.posted.length < 16 →
          t.tracker = joined e.slot .exclEnd e.hostAddress true (tagRetired i s.tracker) ∧
          t.locks = { s.locks with episode := none }) ∧
        (16 ≤ s.tracker.posted.length →
          t.tracker = tagRetired i s.tracker ∧
          t.locks = { s.locks with episode := some { e with heldRead := none, endPending := true } })

/-! ### The episode's end and the limits -/

/-- A lock release of the episode's slot: withdrawal in REQUESTED, or the end in OPEN, whose EXCL_END joins the posted-write
queue or waits for its reserved place; EXCL_END_PLACED puts it there. In NONE, ABANDONING, for another slot, and while an
EXCL_END waits, a release changes nothing. An unlocked transaction, whatever its target, makes the same report. The model's
own choices here: a command whose event cannot occur changes nothing (log 2); a completed drain is held until it is reported
(log 8); only the owner presents, REQ is an operand (log 17); SLOT_PRESENTATION reports the lock flag first and reads the
window after it (log 26); a lock release acts although the slot’s own transaction has not ended (log 33). -/
def Obligations.LockReleaseEndsEpisode : Prop :=
  (∀ (slot : Slot) (s : State),
    (∀ e, s.locks.episode = some e → e.slot ≠ slot ∨ e.state = .abandoning ∨ (e.state = .opened ∧ e.endPending = true)) →
    exec (.lockRelease slot) s = .next s) ∧
  (∀ (slot : Slot) (e : Episode) (s : State), s.locks.episode = some e → e.slot = slot → e.state = .requested →
    NoneWaitsForEpisode s →
    ∃ t, exec (.lockRelease slot) s = .next t ∧ OnlyChanges [.locks, .staging] s t ∧
      t.staging.lines = s.staging.lines ∧ t.staging.closedOrder = s.staging.closedOrder ∧
      t.locks =
        { s.locks with
          episode := if e.beginQueued = true then some { e with state := .abandoning, limit := none } else none }) ∧
  (∀ (slot : Slot) (e : Episode) (s : State), s.locks.episode = some e → e.slot = slot → e.state = .opened →
    e.endPending = false → NoneWaitsForEpisode s →
    ∃ t, exec (.lockRelease slot) s = .next t ∧
      (s.tracker.posted.length < 16 →
        OnlyChanges [.locks, .tracker] s t ∧ t.locks = { s.locks with episode := none } ∧
        t.tracker = joined slot .exclEnd e.hostAddress true s.tracker) ∧
      (16 ≤ s.tracker.posted.length →
        OnlyChanges [.locks] s t ∧
        t.locks =
          { s.locks with episode := some { e with limit := none, heldRead := none, endPending := true } })) ∧
  (∀ (e : Episode) (s : State), s.locks.episode = some e → e.endPending = true → s.tracker.posted.length < 16 →
    NoneWaitsForEpisode s →
    ∃ t, exec .exclEndPlaced s = .next t ∧ OnlyChanges [.locks, .tracker] s t ∧
      t.locks = { s.locks with episode := none } ∧
      t.tracker = joined e.slot .exclEnd e.hostAddress true s.tracker) ∧
  ∀ (slot : Slot) (address : BusAddress) (x : Transfer) (s r : State), s.bus.owner = .slot slot →
    (∀ b n, s.bus.phase ≠ .awaiting b n) → x.wellFormed = true → exec (.lockRelease slot) s = .next r →
    exec (.slotPresentation slot address x false) s = exec (.slotPresentation slot address x false) r

/-- The episode limit: EXCL_OVERRUN is recorded and fences the slot if its Autofence is yes; the episode goes to ABANDONING,
or on to NONE where nothing is awaited. The host lock's limit: FREE with LOCK_EXPIRED, the bus released unless a
presentation of the bridge master is on it. The model's own choices here: an expiry moves the present time to its deadline
(log 4); the order in which several lines close is free (log 7). -/
def Obligations.LockLimitsExpire : Prop :=
  (∀ (e : Episode) (d : Time) (s : State), s.locks.episode = some e → e.limit = some d → e.state ≠ .abandoning →
    e.endPending = false → NoneWaitsForEpisode s → s.tracker.posted.length < 16 →
    ∃ t, exec .episodeLimitExpiry s = .next t ∧
      OnlyChanges [.bus, .staging, .tracker, .locks, .faults, .time] s t ∧ t.now = max s.now d ∧
      FaultTaken { kind := .exclOverrun, slot := some e.slot }
        ((s.bus.slots.get e.slot).autofence && !(s.bus.slots.get e.slot).fenced) s t ∧
      ((s.bus.slots.get e.slot).autofence = true ∧ (s.bus.slots.get e.slot).fenced = false → SlotFenced e.slot s t) ∧
      ((s.bus.slots.get e.slot).autofence = false ∨ (s.bus.slots.get e.slot).fenced = true →
        t.bus = s.bus ∧ t.staging.lines = s.staging.lines) ∧
      (e.state = .requested →
        t.tracker = s.tracker ∧
        t.locks =
          { s.locks with
            episode := if e.beginQueued = true then some { e with state := .abandoning, limit := none } else none }) ∧
      (∀ h, e.state = .opened → e.heldRead = some h → h.result = .waiting →
        t.tracker = s.tracker ∧
        t.locks = { s.locks with episode := some { e with state := .abandoning, limit := none } }) ∧
      (e.state = .opened → (∀ h, e.heldRead = some h → h.result ≠ .waiting) →
        t.tracker = joined e.slot .exclEnd e.hostAddress true s.tracker ∧
        t.locks = { s.locks with episode := none })) ∧
  ∀ (d : Time) (s : State), s.locks.hostLock = .held d →
    ∃ t, exec .lockLimitExpiry s = .next t ∧ OnlyChanges [.locks, .bus, .command, .time] s t ∧ t.now = max s.now d ∧
      t.locks = { s.locks with hostLock := .free } ∧
      t.command = { s.command with replies := s.command.replies ++ [.notice .lockExpired] } ∧
      (masterPresenting s = true → t.bus = s.bus) ∧
      (masterPresenting s = false → s.bus.owner = .master →
        t.bus = { s.bus with owner := .none, masterLock := false, deadline := none })

/-! ### Grants and the bus -/

/-- The arbiter's rows: a HELD host lock grants the bridge master alone, an episode its slot alone, and else the bridge
master, with lock for an ACQUIRING host lock, before the first requesting eligible slot after the pointer. Grants to slots
move the pointer. The model's own choices here: a command whose event cannot occur changes nothing (log 2); time counts in
units of 0.5 µs (log 3); only the owner presents, REQ is an operand (log 17); which cards may claim a presentation (log 31).
-/
def Obligations.ArbiterGrants : Prop :=
  (∀ (requests : BitVec 6) (s : State), s.bus.owner = .none →
    (lockHeld s = true → accessRequests s = false → exec (.busGrant requests) s = .next s) ∧
    (∀ e, lockHeld s = false → s.locks.episode = some e → (slotIn requests e.slot && eligible e.slot s) = false →
      exec (.busGrant requests) s = .next s) ∧
    (lockHeld s = false → s.locks.episode = none → s.locks.hostLock ≠ .acquiring → accessRequests s = false →
      (∀ y, (slotIn requests y && eligible y s) = false) → exec (.busGrant requests) s = .next s)) ∧
  (∀ (requests : BitVec 6) (x : Slot) (s : State), s.bus.owner = .none → lockHeld s = false →
    (slotIn requests x && eligible x s) = true →
    ((∃ e, s.locks.episode = some e ∧ e.slot = x) ∨
      (s.locks.episode = none ∧ s.locks.hostLock ≠ .acquiring ∧ accessRequests s = false ∧
        ∀ y : Slot, (y.val + 5 - s.bus.pointer.val) % 6 < (x.val + 5 - s.bus.pointer.val) % 6 →
          (slotIn requests y && eligible y s) = false)) →
    ∃ t, exec (.busGrant requests) s = .next t ∧ OnlyChanges [.bus] s t ∧
      t.bus = { s.bus with owner := .slot x, phase := .granted, pointer := x, deadline := some (s.now + 4) }) ∧
  (∀ (requests : BitVec 6) (x : Executing) (s : State), s.bus.owner = .none → s.locks.hostLock = .acquiring →
    s.locks.episode = none → s.command.executing = some x →
    ∃ t, exec (.busGrant requests) s = .next t ∧ OnlyChanges [.bus, .locks, .command] s t ∧
      t.bus = { s.bus with owner := .master, masterLock := true, deadline := none } ∧
      t.locks = { s.locks with hostLock := .held (s.now + 2000 * s.locks.lockLimit) } ∧
      t.command =
        { s.command with executing := none, replies := s.command.replies ++ [.reply x.tag x.code .ok []] }) ∧
  ∀ (requests : BitVec 6) (d : Downstream) (s : State), s.bus.owner = .none → s.master.access = some d →
    d.phase = .requesting → s.locks.hostLock ≠ .acquiring → (lockHeld s = true ∨ s.locks.episode = none) →
    ∃ t, exec (.busGrant requests) s = .next t ∧ OnlyChanges [.bus, .master] s t ∧
      t.bus =
        { s.bus with
          owner := .master
          masterLock := lockHeld s
          deadline := some (s.now + 4)
          claimants := claimants d.space d.slot s } ∧
      t.master = { s.master with access := some { d with phase := .presenting } }

/-- A slot's transaction that the bridge does not claim, after the report that an unlocked one makes, in an episode as well,
waits for a card target, one that is out of reset at its presentation and since, and never one in IDENTITY, where no slot
can assert a select line; and the ways in which a slot's ownership ends or goes on. The model's own choices here: a command
whose event cannot occur changes nothing (log 2); time counts in units of 0.5 µs (log 3); an expiry moves the present time
to its deadline (log 4); only the owner presents, REQ is an operand (log 17); SLOT_PRESENTATION reports the lock flag first
and reads the window after it (log 26); which cards may claim a presentation (log 31). -/
def Obligations.SlotOwnershipEnds : Prop :=
  (∀ (slot : Slot) (address : BusAddress) (x : Transfer) (lock : Bool) (s r : State), s.bus.owner = .slot slot →
    (∀ b n, s.bus.phase ≠ .awaiting b n) → x.wellFormed = true →
    (if lock = true then r = s else exec (.lockRelease slot) s = .next r) →
    (∀ a, address = .memory a → inWindow r.pageMap a = false) →
    ∃ t, exec (.slotPresentation slot address x lock) s = .next t ∧ OnlyChanges [.bus] r t ∧
      t.bus =
        { r.bus with
          phase := .awaiting address x.length
          deadline := some (r.now + 4)
          claimants := claimants address.space none r }) ∧
  (∀ (slot : Slot) (d : Time) (s : State), s.bus.owner = .slot slot → s.bus.phase = .granted → s.bus.deadline = some d →
    ∃ t, exec .grantIdleTimeout s = .next t ∧ OnlyChanges [.bus, .time] s t ∧ t.now = max s.now d ∧
      t.bus = ownershipEnded slot s.bus) ∧
  (∀ (slot : Slot) (s : State), s.bus.owner = .slot slot → s.bus.phase = .granted →
    ∃ t, exec (.requestDropped slot) s = .next t ∧ OnlyChanges [.bus] s t ∧ t.bus = ownershipEnded slot s.bus) ∧
  (∀ (slot : Slot) (address : BusAddress) (n : Nat) (a : Response) (s : State), s.bus.owner = .slot slot →
    s.bus.phase = .awaiting address n → s.bus.claimants ≠ [] → (∀ k, a = .partly k → 1 ≤ k ∧ k < n) →
    ∃ t, exec (.slotTransactionAnswer a) s = .next t ∧ OnlyChanges [.bus] s t ∧
      t.bus =
        match a with
        | .partly _ => { s.bus with phase := .continuing, deadline := none }
        | _ => ownershipEnded slot s.bus) ∧
  (∀ (a : Response) (s : State), s.bus.claimants = [] → exec (.slotTransactionAnswer a) s = .next s) ∧
  (∀ (space : Space) (selected : Option Slot) (x : Slot) (s : State),
    x ∈ claimants space selected s ↔
      (s.bus.slots.get x).enabled = true ∧ (s.bus.slots.get x).resetDeadline = none ∧
        (space = .identity → selected = some x)) ∧
  ∀ (slot : Slot) (address : BusAddress) (n : Nat) (d : Time) (s : State), s.bus.owner = .slot slot →
    s.bus.phase = .awaiting address n → s.bus.deadline = some d →
    ∃ t, exec .slotTransactionNoClaim s = .next t ∧ OnlyChanges [.bus, .time] s t ∧ t.now = max s.now d ∧
      t.bus = ownershipEnded slot s.bus

/-- The bridge master follows the answers to its presentation: COMPLETE ends a CARD_WRITE with every read line freed and
starts the drain of a CARD_READ; PARTIAL presents the remainder; RETRY is counted and ends the access at the limit; ABORT
and NO_CLAIM end it, a CARD_WRITE that has written bytes freeing every read line. A presentation whose command a link loss
has discarded ends with its answer, or with no claim, without reply, freeing or drain, and the bus is released (log 28).
Where no card may claim the presentation, an answer changes nothing. The model's own choices here: a command whose event
cannot occur changes nothing (log 2); time counts in units of 0.5 µs (log 3); an expiry moves the present time to its
deadline (log 4); the order in which several lines close is free (log 7); a completed drain is held until it is reported
(log 8); a presentation whose command is gone goes on (log 28); which cards may claim a presentation (log 31). -/
def Obligations.MasterFollowsAnswers : Prop :=
  (∀ (d : Downstream) (x : Executing) (s : State), s.master.access = some d → d.phase = .presenting → d.write = true →
    s.command.executing = some x → s.bus.owner = .master → answerFits d .complete [] s = true →
    ∃ t, exec (.presentationAnswer .complete []) s = .next t ∧ OnlyChanges [.master, .bus, .staging, .command] s t ∧
      t.master = { s.master with access := none } ∧ t.bus = masterDone s ∧
      (∀ j, lineAt j t = (if (lineAt j s).isRead = true then quieted (fun _ => true) (lineAt j s) else lineAt j s)) ∧
      t.staging.closedOrder = s.staging.closedOrder ∧
      t.command =
        { s.command with
          executing := none
          replies := s.command.replies ++ [.reply x.tag x.code .ok [BitVec.ofNat 8 d.length, 0, 0, 0]] }) ∧
  (∀ (d : Downstream) (x : Executing) (data : List Byte) (s : State), s.master.access = some d → d.phase = .presenting →
    d.write = false → s.command.executing = some x → s.bus.owner = .master →
    answerFits d .complete data s = true →
    ∃ t, exec (.presentationAnswer .complete data) s = .next t ∧ OnlyChanges [.master, .bus, .staging, .command] s t ∧
      t.bus = masterDone s ∧ LinesShut (fun _ => true) s t ∧ DrainMarked t ∧
      (t.staging.globalDrain = none →
        t.master = { s.master with access := none } ∧
        t.command =
          { s.command with
            executing := none
            replies :=
              s.command.replies ++
                [.reply x.tag x.code .ok ([BitVec.ofNat 8 d.length, 0, 0, 0] ++ (d.data ++ data))] }) ∧
      (t.staging.globalDrain ≠ none →
        t.master =
          { s.master with
            access := some { d with data := d.data ++ data, bytesDone := d.length, phase := .draining } } ∧
        t.command = { s.command with executing := some { x with wait := .drain } })) ∧
  (∀ (d : Downstream) (n : Nat) (data : List Byte) (s : State), s.master.access = some d → d.phase = .presenting →
    answerFits d (.partly n) data s = true →
    ∃ t, exec (.presentationAnswer (.partly n) data) s = .next t ∧ OnlyChanges [.master, .bus] s t ∧
      t.bus = { s.bus with deadline := some (s.now + 4), claimants := claimants d.space d.slot s } ∧
      t.master =
        { s.master with
          access :=
            some
              { d with
                bytesDone := d.bytesDone + n
                data := if d.write = true then d.data else d.data ++ data } }) ∧
  (∀ (d : Downstream) (x : Executing) (s : State), s.master.access = some d → d.phase = .presenting →
    s.command.executing = some x → s.bus.owner = .master → answerFits d .retry [] s = true →
    d.retryCount + 1 ≠ d.retryLimit →
    ∃ t, exec (.presentationAnswer .retry []) s = .next t ∧ OnlyChanges [.master, .bus] s t ∧
      t.bus =
        (if lockHeld s = true then
          { s.bus with deadline := some (s.now + 4), claimants := claimants d.space d.slot s }
        else masterDone s) ∧
      t.master =
        { s.master with
          access :=
            some
              { d with
                retryCount := d.retryCount + 1
                phase := if lockHeld s = true then .presenting else .requesting } }) ∧
  (∀ (r : Response) (data : List Byte) (s : State), s.bus.claimants = [] →
    exec (.presentationAnswer r data) s = .next s) ∧
  (∀ (d : Downstream) (c : Instr) (time : Time) (s : State), s.master.access = some d → d.phase = .presenting →
    s.command.executing = none → s.bus.owner = .master →
    ((∃ r data, c = .presentationAnswer r data ∧ (∀ n, r ≠ .partly n) ∧ answerFits d r data s = true ∧ time = s.now) ∨
      (c = .noClaim ∧ ∃ dl, s.bus.deadline = some dl ∧ time = max s.now dl)) →
    ∃ t, exec c s = .next t ∧ OnlyChanges [.master, .bus, .time] s t ∧ t.now = time ∧
      t.master = { s.master with access := none } ∧ t.bus = masterDone s) ∧
  ∀ (d : Downstream) (x : Executing) (c : Instr) (code : ResultCode) (time : Time) (s : State),
    s.master.access = some d → d.phase = .presenting → s.command.executing = some x → s.bus.owner = .master →
    ((c = .presentationAnswer .abort [] ∧ code = .targetAbort ∧ answerFits d .abort [] s = true ∧ time = s.now) ∨
      (c = .presentationAnswer .retry [] ∧ code = .retryLimit ∧ answerFits d .retry [] s = true ∧
        d.retryCount + 1 = d.retryLimit ∧ time = s.now) ∨
      (c = .noClaim ∧ code = .noTarget ∧ ∃ dl, s.bus.deadline = some dl ∧ time = max s.now dl)) →
    ∃ t, exec c s = .next t ∧ OnlyChanges [.master, .bus, .staging, .command, .time] s t ∧ t.now = time ∧
      t.master = { s.master with access := none } ∧ t.bus = masterDone s ∧
      (d.write = true ∧ 0 < d.bytesDone →
        ∀ j, lineAt j t = if (lineAt j s).isRead = true then quieted (fun _ => true) (lineAt j s) else lineAt j s) ∧
      (d.write = false ∨ d.bytesDone = 0 → t.staging = s.staging) ∧
      t.command =
        { s.command with
          executing := none
          replies := s.command.replies ++ [.reply x.tag x.code code [BitVec.ofNat 8 d.bytesDone, 0, 0, 0]] }

/-! ### Interrupt lines, expiries and completions -/

/-- An assertion raises an event where its conditions hold, and else changes the level alone; a deassertion withdraws a
PENDING event of a slot that is enabled and not in reset, and else changes the level alone. The model's own choices here:
the order in which several lines close is free (log 7); a completed drain is held until it is reported (log 8); an interrupt
command acts although the level is so already (log 32). -/
def Obligations.InterruptLinesRaiseAndWithdraw : Prop :=
  (∀ (slot : Slot) (s u : State), u = s.setEvents { s.events with lines := s.events.lines.set slot true } →
    ∃ t, exec (.interruptAssertion slot) s = .next t ∧ OnlyChanges [.events, .staging] s t ∧
      t.events.lines = s.events.lines.set slot true ∧ (Raisable slot u → Raised slot u t) ∧
      (¬ Raisable slot u → t.events = u.events ∧ t.staging = s.staging)) ∧
  ∀ (slot : Slot) (s : State),
    ∃ t, exec (.interruptDeassertion slot) s = .next t ∧ OnlyChanges [.events, .staging] s t ∧
      t.events.lines = s.events.lines.set slot false ∧ t.events.offered = s.events.offered ∧
      (eligible slot s = true → (∃ d, (eventAt slot s).state = .pending d) →
        EventEnded slot s t ∧ EventDrainDropped slot s t ∧
        t.staging = { s.staging with slotDrains := t.staging.slotDrains }) ∧
      (eligible slot s = false ∨ (∀ d, (eventAt slot s).state ≠ .pending d) →
        t.events.records = s.events.records ∧ t.staging = s.staging)

/-- A slot reset ends: the slot is out of reset, the notice queued while UP, and the line looked at. The reinitialisation of
a bridge reset completes: RUNNING, with its notice while UP. The model's own choices here: an expiry moves the present time
to its deadline (log 4); the order in which several lines close is free (log 7); a completed drain is held until it is
reported (log 8); the end of reinitialisation may come at any time (log 23). -/
def Obligations.ResetsComplete : Prop :=
  (∀ (slot : Slot) (d : Time) (s u : State), (s.bus.slots.get slot).resetDeadline = some d →
    u = setSlot slot { s.bus.slots.get slot with resetDeadline := none } s →
    ∃ t, exec (.slotResetEnd slot) s = .next t ∧ OnlyChanges [.bus, .events, .staging, .command, .time] s t ∧
      t.now = max s.now d ∧ t.bus = u.bus ∧ t.events.lines = s.events.lines ∧
      t.command =
        { s.command with
          replies :=
            s.command.replies ++ (if s.uplink.linkState = .up then [.notice (.slotResetDone slot)] else []) } ∧
      (Raisable slot u → Raised slot u t) ∧ (¬ Raisable slot u → t.events = s.events ∧ t.staging = s.staging)) ∧
  ∀ s : State, s.command.resetting = true →
    ∃ t, exec .reinitialisationComplete s = .next t ∧ OnlyChanges [.command] s t ∧
      t.command =
        { s.command with
          resetting := false
          replies := s.command.replies ++ (if s.uplink.linkState = .up then [.notice .resetDone] else []) }

/-- Completed drains are reported: a PENDING event is sent, or drained while the link is not UP; the Lock Unit asks for the
EXCL_BEGIN's tag, then and at EXCL_BEGIN_ALLOCATION; a global drain and a map barrier complete their command. The model's
own choices here: a completed drain is held until it is reported (log 8). -/
def Obligations.DrainsAreReported : Prop :=
  (∀ (slot : Slot) (d : Bool) (s : State), (s.staging.slotDrains.get slot).event = .complete →
    (s.staging.slotDrains.get slot).episode ≠ .complete → (eventAt slot s).state = .pending d →
    ∃ t, exec (.slotDrainComplete slot) s = .next t ∧ OnlyChanges [.events, .staging] s t ∧
      t.staging =
        { s.staging with
          slotDrains := s.staging.slotDrains.set slot { s.staging.slotDrains.get slot with event := .idle } } ∧
      t.events =
        { s.events with
          records :=
            s.events.records.set slot
              { eventAt slot s with state := if s.uplink.linkState = .up then .sent false else .pending true }
          offered :=
            s.events.offered ++
              (if s.uplink.linkState = .up then [⟨slot, (eventAt slot s).seq, (eventAt slot s).resend⟩] else []) }) ∧
  (∀ (e : Episode) (k : TagIx) (c : Instr) (s : State), s.locks.episode = some e → e.state = .requested →
    e.beginQueued = false → lowestFreeTag s = some k →
    ((c = .slotDrainComplete e.slot ∧ (s.staging.slotDrains.get e.slot).episode = .complete ∧
        (s.staging.slotDrains.get e.slot).event ≠ .complete) ∨
      (c = .exclBeginAllocation ∧ (s.staging.slotDrains.get e.slot).episode = .idle)) →
    ∃ t, exec c s = .next t ∧ OnlyChanges [.locks, .staging, .tracker] s t ∧
      t.staging.lines = s.staging.lines ∧ (t.staging.slotDrains.get e.slot).episode = .idle ∧
      t.tracker =
        allocated k { purpose := .exclBegin, hostAddress := e.hostAddress, length := 0, slot := e.slot } s.tracker ∧
      t.locks =
        { s.locks with
          episode :=
            some { e with beginQueued := true, beginTag := some ⟨k, (s.tracker.tags.get k).generation⟩ } }) ∧
  (∀ (x : Executing) (s : State), s.staging.globalDrain = some .transmitted → s.command.executing = some x →
    (∀ d, s.master.access = some d → d.phase ≠ .draining) →
    ∃ t, exec .globalDrainComplete s = .next t ∧ OnlyChanges [.staging, .command] s t ∧
      t.staging = { s.staging with globalDrain := none } ∧
      t.command =
        { s.command with executing := none, replies := s.command.replies ++ [.reply x.tag x.code .ok []] }) ∧
  (∀ (x : Executing) (d : Downstream) (s : State), s.staging.globalDrain = some .transmitted →
    s.command.executing = some x → s.master.access = some d → d.phase = .draining →
    ∃ t, exec .globalDrainComplete s = .next t ∧ OnlyChanges [.staging, .command, .master] s t ∧
      t.staging = { s.staging with globalDrain := none } ∧ t.master = { s.master with access := none } ∧
      t.command =
        { s.command with
          executing := none
          replies :=
            s.command.replies ++ [.reply x.tag x.code .ok ([BitVec.ofNat 8 d.bytesDone, 0, 0, 0] ++ d.data)] }) ∧
  ∀ (x : Executing) (s : State), s.staging.mapBarrier = some .transmitted → s.command.executing = some x →
    ∃ t, exec .mapBarrierComplete s = .next t ∧ OnlyChanges [.staging, .command] s t ∧
      t.staging = { s.staging with mapBarrier := none } ∧
      t.command =
        { s.command with executing := none, replies := s.command.replies ++ [.reply x.tag x.code .ok []] }

/-- A GATHERING line whose IdleDeadline passes is closed; the head of the closed-order list becomes a posted entry while the
queue has room that no EXCL_END waits for, whatever write hold says; while it is full, or an EXCL_END waits for its place,
or no line is closed, CLOSED_LINE_MOVE changes nothing. The model's own choices here: an expiry moves the present time to
its deadline (log 4). -/
def Obligations.ClosedLinesMoveInOrder : Prop :=
  (∀ (i : LineIx) (b : Binding) (data : Table Byte 64) (v : BitVec 64) (d : Time) (s : State),
    lineAt i s = .gathering b data v d →
    ∃ t, exec (.gatherIdleExpiry i) s = .next t ∧ OnlyChanges [.staging, .time] s t ∧ t.now = max s.now d ∧
      t.staging =
        { s.staging with
          lines := s.staging.lines.set i (.closed b data v)
          closedOrder := s.staging.closedOrder ++ [i] }) ∧
  (∀ s : State, 16 ≤ s.tracker.posted.length ∨ endWaiting s = true ∨ s.staging.closedOrder = [] →
    exec .closedLineMove s = .next s) ∧
  ∀ (i : LineIx) (rest : List LineIx) (b : Binding) (data : Table Byte 64) (v : BitVec 64) (s : State),
    s.staging.closedOrder = i :: rest → lineAt i s = .closed b data v → s.tracker.posted.length < 16 →
    endWaiting s = false →
    ∃ t, exec .closedLineMove s = .next t ∧ OnlyChanges [.staging, .tracker] s t ∧
      t.tracker = joined b.slot (.write v data) b.hostLine false s.tracker ∧
      lineAt i t = .free ∧ (∀ j, j ≠ i → lineAt j t = lineAt j s) ∧ t.staging.closedOrder = rest ∧
      t.staging.lru = s.staging.lru ∧ SettingsKept s t ∧ t.staging.slotDrains = s.staging.slotDrains ∧
      t.staging.globalDrain =
        (if s.staging.globalDrain = some (.line i) then some (.posted s.tracker.nextPosted)
        else s.staging.globalDrain) ∧
      t.staging.mapBarrier =
        if s.staging.mapBarrier = some (.line i) then some (.posted s.tracker.nextPosted) else s.staging.mapBarrier

/-! ### Completions and commands from the host -/

/-- MEM_DATA in order, and the read timeout: an unmatched frame is reported and changes no tag; a match or a timeout retires
the tag, and its result reaches the line: data makes a line VALID, an error makes it ERROR and is recorded, a stale line
becomes FREE. The model's own choices here: an expiry moves the present time to its deadline (log 4); Unacknowledged stops
at 4 (log 12). -/
def Obligations.FetchResultsReachLines : Prop :=
  (∀ (seq ackSeq : SeqNo) (tag status x y : Byte) (data : List Byte) (s : State), InOrder seq ackSeq s →
    data.length ≤ 64 →
    (∀ i : TagIx, i.val = tagIndex tag → ∀ q d, (s.tracker.tags.get i).state = .outstanding q d →
      (s.tracker.tags.get i).generation ≠ tagGeneration tag) →
    ∃ t, exec (.memDataReceived seq ackSeq ([tag, status, x, y] ++ data)) s = .next t ∧
      OnlyChanges [.uplink, .faults] s t ∧ t.uplink = acceptedUplink s ∧
      FaultTaken { kind := .unexpectedCompletion, tag := some tag } false s t) ∧
  ∀ (c : Instr) (i : TagIx) (q : Request) (d time : Time) (j : LineIx) (b : Binding) (f : FetchSpan)
    (readStart : Option Nat) (stale : Bool) (g : TagRef) (result : FetchResult) (s : State),
    (s.tracker.tags.get i).state = .outstanding q d → q.purpose = .lineFetch j →
    lineAt j s = .fetching b f readStart stale g →
    TagEnds c i q d result time s →
    ∃ t, exec c s = .next t ∧ OnlyChanges [.uplink, .faults, .tracker, .staging, .time] s t ∧ t.now = time ∧
      t.uplink = (match c with | .memDataReceived .. => acceptedUplink s | _ => s.uplink) ∧
      t.tracker = tagRetired i s.tracker ∧
      lineAt j t =
        (if stale = true then .free
        else
          match result with
          | .data bytes => .valid b f bytes (readStart.getD f.start)
          | .error _ => .error b f g) ∧
      (∀ l, l ≠ j → lineAt l t = lineAt l s) ∧
      t.staging.lru = s.staging.lru.filter (· ≠ j) ++ (if stale = true then [] else [j]) ∧
      ResultReported i q result s t

/-- The result of the EXCL_BEGIN's tag, by MEM_DATA or the read timeout: OK opens the episode; an error refuses it, recorded
EXCL_REFUSED, with the slot in AbortNext. In ABANDONING, OK brings the EXCL_END, which waits for a place while the
posted-write queue is full, and an error nothing more. The model's own choices here: an expiry moves the present time to its
deadline (log 4); Unacknowledged stops at 4 (log 12). -/
def Obligations.ExclBeginResultDecides : Prop :=
  ∀ (c : Instr) (i : TagIx) (q : Request) (d time : Time) (result : FetchResult) (e : Episode) (s : State),
    (s.tracker.tags.get i).state = .outstanding q d → q.purpose = .exclBegin → q.length = 0 →
    TagEnds c i q d result time s → s.locks.episode = some e →
    e.beginTag = some ⟨i, (s.tracker.tags.get i).generation⟩ → NoneWaitsForEpisode s →
    ∃ t, exec c s = .next t ∧ OnlyChanges [.uplink, .faults, .tracker, .locks, .time] s t ∧ t.now = time ∧
      t.uplink = (match c with | .memDataReceived .. => acceptedUplink s | _ => s.uplink) ∧
      (∀ bytes, e.state = .requested → result = .data bytes →
        t.faults = s.faults ∧ t.tracker = tagRetired i s.tracker ∧
        t.locks = { s.locks with episode := some { e with state := .opened, beginTag := none } }) ∧
      (∀ k, e.state = .requested → result = .error k →
        FaultTaken { kind := .exclRefused, slot := some e.slot } false s t ∧ t.tracker = tagRetired i s.tracker ∧
        t.locks = { s.locks with episode := none, abortNext := s.locks.abortNext ||| slotBit e.slot }) ∧
      (e.state = .abandoning →
        t.faults = s.faults ∧
        (∀ bytes, result = .data bytes → s.tracker.posted.length < 16 →
          t.tracker = joined e.slot .exclEnd e.hostAddress true (tagRetired i s.tracker) ∧
          t.locks = { s.locks with episode := none }) ∧
        (∀ bytes, result = .data bytes → 16 ≤ s.tracker.posted.length →
          t.tracker = tagRetired i s.tracker ∧
          t.locks = { s.locks with episode := some { e with beginTag := none, endPending := true } }) ∧
        ∀ k, result = .error k → t.tracker = tagRetired i s.tracker ∧ t.locks = { s.locks with episode := none })

/-- A sequenced frame while UP: its AckSeq acts as an ACK before anything else; a Seq 1 to 31 ahead of NextRx is a gap, one
behind is a duplicate whose ACK is due at once, and neither is delivered. The model's own choices here: which link frames
stay due (log 11). -/
def Obligations.SequencedFramesAreCompared : Prop :=
  ∀ (seq ackSeq : SeqNo) (p : List Byte) (c : Instr) (s : State), s.uplink.linkState = .up → ReplayNumbered s →
    s.uplink.replay.length ≤ 16 →
    ((c = .commandReceived seq ackSeq p ∧ p.length ≤ 136) ∨
      (c = .memDataReceived seq ackSeq p ∧ 4 ≤ p.length ∧ p.length ≤ 68)) →
    (∃ u, exec (.ackReceived [ackSeq.setWidth 8, 0, 0, 0]) s = .next u ∧ exec c s = exec c u) ∧
    (InOrder s.uplink.nextRx ackSeq s →
      (1 ≤ (seq - s.uplink.nextRx).toNat → (seq - s.uplink.nextRx).toNat ≤ 31 →
        ∃ t, exec c s = .next t ∧ OnlyChanges [.uplink] s t ∧
          t.uplink = { s.uplink with nakDue := s.uplink.nakDue || !s.uplink.nakSent }) ∧
      (32 ≤ (seq - s.uplink.nextRx).toNat →
        ∃ t, exec c s = .next t ∧ OnlyChanges [.uplink] s t ∧ t.uplink = { s.uplink with ackDue := true }))

/-- A COMMAND frame in order, by the rows of R155: a short head is discarded with its credit; a full queue drops the frame
with COMMAND_OVERFLOW; an answer that is not admitted holds the frame; refusals and STATUS_QUERY are answered in the step
with the credit; an ordered command joins the queue. The model's own choices here: Unacknowledged stops at 4 (log 12); a
command credit past 8 is free (log 13); STATUS_QUERY shows neither its own reply, its own credit nor its own Held entry (log
14). -/
def Obligations.CommandsAreJudgedOnArrival : Prop :=
  ∀ (seq ackSeq : SeqNo) (s : State), InOrder seq ackSeq s →
    (∀ p : List Byte, p.length < 4 →
      ∃ t, exec (.commandReceived seq ackSeq p) s = .next t ∧ OnlyChanges [.uplink] s t ∧ AcceptedWithCredit s t) ∧
    ∀ (t1 t0 code reserved : Byte) (args : List Byte) (tag : BitVec 16), args.length ≤ 132 →
      tag = BitVec.ofNat 16 (u16 t1 t0) →
      ∃ t, exec (.commandReceived seq ackSeq ([t1, t0, code, reserved] ++ args)) s = .next t ∧
        (8 ≤ s.command.queue.length →
          OnlyChanges [.uplink, .faults] s t ∧ t.uplink = acceptedUplink s ∧
          FaultTaken { kind := .commandOverflow } false s t) ∧
        (∀ result, s.command.queue.length < 8 → s.command.replies.length ≤ 6 →
          ((tagInUse tag s.command = true ∧ result = .tagInUse) ∨
            (tagInUse tag s.command = false ∧ knownCode code = false ∧ result = .unknownCommand) ∨
            (tagInUse tag s.command = false ∧ knownCode code = true ∧ argumentsPass s.pageMap code args = false ∧
              result = .badArgument)) →
          OnlyChanges [.uplink, .command] s t ∧ AcceptedWithCredit s t ∧
          t.command = { s.command with replies := s.command.replies ++ [.reply tag code result []] }) ∧
        (s.command.queue.length < 8 → 7 ≤ s.command.replies.length →
          (tagInUse tag s.command = true ∨ argumentsPass s.pageMap code args = false ∨
            (∃ slot n, parseCommand code args = some (.eventAck slot n)) ∨
            ∃ x, parseCommand code args = some (.statusQuery x)) →
          OnlyChanges [.uplink, .command] s t ∧ t.uplink = acceptedUplink s ∧
          t.command = { s.command with queue := s.command.queue ++ [⟨tag, code, args, true⟩] }) ∧
        (∀ x, s.command.queue.length < 8 → s.command.replies.length ≤ 6 → tagInUse tag s.command = false →
          parseCommand code args = some (.statusQuery x) →
          OnlyChanges [.uplink, .command] s t ∧ AcceptedWithCredit s t ∧
          ∃ u : State, u = s.setUplink (acceptedUplink s) ∧
            t.command = { s.command with replies := s.command.replies ++ [.reply tag code .ok (sectionRecord x u)] }) ∧
        (s.command.queue.length < 8 → tagInUse tag s.command = false → argumentsPass s.pageMap code args = true →
          (∀ slot n, parseCommand code args ≠ some (.eventAck slot n)) →
          (∀ x, parseCommand code args ≠ some (.statusQuery x)) →
          OnlyChanges [.uplink, .command] s t ∧ t.uplink = acceptedUplink s ∧
          t.command = { s.command with queue := s.command.queue ++ [⟨tag, code, args, false⟩] })

/-- EVENT_ACK answered in the step of its arrival: BAD_SEQUENCE unless the record is SENT with that number and Resend yes;
then OK, the offered frame withdrawn, the number advanced, and the next event raised if the line calls for it. The model's
own choices here: the order in which several lines close is free (log 7); a completed drain is held until it is reported
(log 8); Unacknowledged stops at 4 (log 12); a command credit past 8 is free (log 13). -/
def Obligations.EventAckMatchesRecord : Prop :=
  ∀ (seq ackSeq : SeqNo) (t1 t0 reserved sl n x y : Byte) (tag : BitVec 16) (slot : Slot) (s : State),
    InOrder seq ackSeq s → s.command.queue.length < 8 → s.command.replies.length ≤ 6 →
    tag = BitVec.ofNat 16 (u16 t1 t0) → tagInUse tag s.command = false → sl.toNat = slot.val →
    ∃ t, exec (.commandReceived seq ackSeq [t1, t0, 0x0C, reserved, sl, n, x, y]) s = .next t ∧
      OnlyChanges [.uplink, .command, .events, .staging] s t ∧ AcceptedWithCredit s t ∧
      t.events.lines = s.events.lines ∧
      ((∃ d, (eventAt slot s).state = .sent d) ∧ (eventAt slot s).seq = n ∧ (eventAt slot s).resend = true →
        t.command = { s.command with replies := s.command.replies ++ [.reply tag 0x0C .ok []] } ∧
        ∃ u : State,
          u =
            s.setEvents
              { s.events with
                records :=
                  s.events.records.set slot
                    { eventAt slot s with state := .idle, seq := (eventAt slot s).seq + 1, resend := false }
                offered := s.events.offered.filter (fun f => f.slot ≠ slot) } ∧
          (Raisable slot u → Raised slot u t) ∧ (¬ Raisable slot u → t.events = u.events ∧ t.staging = s.staging)) ∧
      ((∀ d, (eventAt slot s).state ≠ .sent d) ∨ (eventAt slot s).seq ≠ n ∨ (eventAt slot s).resend = false →
        t.events = s.events ∧ t.staging = s.staging ∧
        t.command = { s.command with replies := s.command.replies ++ [.reply tag 0x0C .badSequence []] })

/-- The oldest Held entry is checked again once 6 frames or fewer wait: a refusal, STATUS_QUERY or EVENT_ACK is answered as
on arrival and the entry removed with its credit; an entry that no longer needs an answer keeps its place with Held no. The
model's own choices here: the order in which several lines close is free (log 7); a completed drain is held until it is
reported (log 8); a command credit past 8 is free (log 13); STATUS_QUERY shows neither its own reply, its own credit nor its
own Held entry (log 14). -/
def Obligations.HeldEntryIsTaken : Prop :=
  ∀ (before after : List CommandEntry) (e : CommandEntry) (s : State), s.command.queue = before ++ e :: after →
    (∀ x ∈ before, x.held = false) → e.held = true → s.command.replies.length ≤ 6 →
    ∃ t, exec .heldEntryTaken s = .next t ∧
      (∀ result,
        ((tagInUse e.tag s.command = true ∧ result = .tagInUse) ∨
          (tagInUse e.tag s.command = false ∧ knownCode e.code = false ∧ result = .unknownCommand) ∨
          (tagInUse e.tag s.command = false ∧ knownCode e.code = true ∧
            argumentsPass s.pageMap e.code e.args = false ∧ result = .badArgument)) →
        OnlyChanges [.uplink, .command] s t ∧ CreditReturned s t ∧
        t.command =
          { s.command with
            queue := before ++ after
            replies := s.command.replies ++ [.reply e.tag e.code result []] }) ∧
      (∀ x, tagInUse e.tag s.command = false → parseCommand e.code e.args = some (.statusQuery x) →
        OnlyChanges [.uplink, .command] s t ∧ CreditReturned s t ∧
        ∃ u : State, u = s.setCommand { s.command with queue := before ++ after } ∧
          t.command =
            { u.command with replies := s.command.replies ++ [.reply e.tag e.code .ok (sectionRecord x u)] }) ∧
      (∀ slot n, tagInUse e.tag s.command = false → parseCommand e.code e.args = some (.eventAck slot n) →
        OnlyChanges [.uplink, .command, .events, .staging] s t ∧ CreditReturned s t ∧
        t.events.lines = s.events.lines ∧ AckDecided slot n s t ∧
        ∃ code, (Acknowledges slot n s → code = .ok) ∧ (¬ Acknowledges slot n s → code = .badSequence) ∧
          t.command =
            { s.command with
              queue := before ++ after
              replies := s.command.replies ++ [.reply e.tag e.code code []] }) ∧
      (tagInUse e.tag s.command = false → argumentsPass s.pageMap e.code e.args = true →
        (∀ slot n, parseCommand e.code e.args ≠ some (.eventAck slot n)) →
        (∀ x, parseCommand e.code e.args ≠ some (.statusQuery x)) →
        OnlyChanges [.command] s t ∧
        t.command = { s.command with queue := before ++ { e with held := false } :: after })
end

