-- ==== Sys2Proof/Laws/State.lean ====
section
/-! SUPPORT. One lemma for each field after each block update, so that no later proof unfolds an update of the state. -/

namespace Sys2Proof.Machine.State

@[simp] theorem setPageMap_pageMap (s : State) (x : PageMap) : (s.setPageMap x).pageMap = x := rfl
@[simp] theorem setPageMap_staging (s : State) (x : PageMap) : (s.setPageMap x).staging = s.staging := rfl
@[simp] theorem setPageMap_tracker (s : State) (x : PageMap) : (s.setPageMap x).tracker = s.tracker := rfl
@[simp] theorem setPageMap_bus (s : State) (x : PageMap) : (s.setPageMap x).bus = s.bus := rfl
@[simp] theorem setPageMap_locks (s : State) (x : PageMap) : (s.setPageMap x).locks = s.locks := rfl
@[simp] theorem setPageMap_master (s : State) (x : PageMap) : (s.setPageMap x).master = s.master := rfl
@[simp] theorem setPageMap_events (s : State) (x : PageMap) : (s.setPageMap x).events = s.events := rfl
@[simp] theorem setPageMap_faults (s : State) (x : PageMap) : (s.setPageMap x).faults = s.faults := rfl
@[simp] theorem setPageMap_command (s : State) (x : PageMap) : (s.setPageMap x).command = s.command := rfl
@[simp] theorem setPageMap_uplink (s : State) (x : PageMap) : (s.setPageMap x).uplink = s.uplink := rfl
@[simp] theorem setPageMap_now (s : State) (x : PageMap) : (s.setPageMap x).now = s.now := rfl
@[simp] theorem setPageMap_freeIndex (s : State) (x : PageMap) : (s.setPageMap x).freeIndex = s.freeIndex := rfl
@[simp] theorem setPageMap_pending (s : State) (x : PageMap) : (s.setPageMap x).pending = s.pending := rfl

@[simp] theorem setStaging_pageMap (s : State) (x : Staging) : (s.setStaging x).pageMap = s.pageMap := rfl
@[simp] theorem setStaging_staging (s : State) (x : Staging) : (s.setStaging x).staging = x := rfl
@[simp] theorem setStaging_tracker (s : State) (x : Staging) : (s.setStaging x).tracker = s.tracker := rfl
@[simp] theorem setStaging_bus (s : State) (x : Staging) : (s.setStaging x).bus = s.bus := rfl
@[simp] theorem setStaging_locks (s : State) (x : Staging) : (s.setStaging x).locks = s.locks := rfl
@[simp] theorem setStaging_master (s : State) (x : Staging) : (s.setStaging x).master = s.master := rfl
@[simp] theorem setStaging_events (s : State) (x : Staging) : (s.setStaging x).events = s.events := rfl
@[simp] theorem setStaging_faults (s : State) (x : Staging) : (s.setStaging x).faults = s.faults := rfl
@[simp] theorem setStaging_command (s : State) (x : Staging) : (s.setStaging x).command = s.command := rfl
@[simp] theorem setStaging_uplink (s : State) (x : Staging) : (s.setStaging x).uplink = s.uplink := rfl
@[simp] theorem setStaging_now (s : State) (x : Staging) : (s.setStaging x).now = s.now := rfl
@[simp] theorem setStaging_freeIndex (s : State) (x : Staging) : (s.setStaging x).freeIndex = s.freeIndex := rfl
@[simp] theorem setStaging_pending (s : State) (x : Staging) : (s.setStaging x).pending = s.pending := rfl

@[simp] theorem setTracker_pageMap (s : State) (x : Tracker) : (s.setTracker x).pageMap = s.pageMap := rfl
@[simp] theorem setTracker_staging (s : State) (x : Tracker) : (s.setTracker x).staging = s.staging := rfl
@[simp] theorem setTracker_tracker (s : State) (x : Tracker) : (s.setTracker x).tracker = x := rfl
@[simp] theorem setTracker_bus (s : State) (x : Tracker) : (s.setTracker x).bus = s.bus := rfl
@[simp] theorem setTracker_locks (s : State) (x : Tracker) : (s.setTracker x).locks = s.locks := rfl
@[simp] theorem setTracker_master (s : State) (x : Tracker) : (s.setTracker x).master = s.master := rfl
@[simp] theorem setTracker_events (s : State) (x : Tracker) : (s.setTracker x).events = s.events := rfl
@[simp] theorem setTracker_faults (s : State) (x : Tracker) : (s.setTracker x).faults = s.faults := rfl
@[simp] theorem setTracker_command (s : State) (x : Tracker) : (s.setTracker x).command = s.command := rfl
@[simp] theorem setTracker_uplink (s : State) (x : Tracker) : (s.setTracker x).uplink = s.uplink := rfl
@[simp] theorem setTracker_now (s : State) (x : Tracker) : (s.setTracker x).now = s.now := rfl
@[simp] theorem setTracker_freeIndex (s : State) (x : Tracker) : (s.setTracker x).freeIndex = s.freeIndex := rfl
@[simp] theorem setTracker_pending (s : State) (x : Tracker) : (s.setTracker x).pending = s.pending := rfl

@[simp] theorem setBus_pageMap (s : State) (x : SlotBus) : (s.setBus x).pageMap = s.pageMap := rfl
@[simp] theorem setBus_staging (s : State) (x : SlotBus) : (s.setBus x).staging = s.staging := rfl
@[simp] theorem setBus_tracker (s : State) (x : SlotBus) : (s.setBus x).tracker = s.tracker := rfl
@[simp] theorem setBus_bus (s : State) (x : SlotBus) : (s.setBus x).bus = x := rfl
@[simp] theorem setBus_locks (s : State) (x : SlotBus) : (s.setBus x).locks = s.locks := rfl
@[simp] theorem setBus_master (s : State) (x : SlotBus) : (s.setBus x).master = s.master := rfl
@[simp] theorem setBus_events (s : State) (x : SlotBus) : (s.setBus x).events = s.events := rfl
@[simp] theorem setBus_faults (s : State) (x : SlotBus) : (s.setBus x).faults = s.faults := rfl
@[simp] theorem setBus_command (s : State) (x : SlotBus) : (s.setBus x).command = s.command := rfl
@[simp] theorem setBus_uplink (s : State) (x : SlotBus) : (s.setBus x).uplink = s.uplink := rfl
@[simp] theorem setBus_now (s : State) (x : SlotBus) : (s.setBus x).now = s.now := rfl
@[simp] theorem setBus_freeIndex (s : State) (x : SlotBus) : (s.setBus x).freeIndex = s.freeIndex := rfl
@[simp] theorem setBus_pending (s : State) (x : SlotBus) : (s.setBus x).pending = s.pending := rfl

@[simp] theorem setLocks_pageMap (s : State) (x : LockUnit) : (s.setLocks x).pageMap = s.pageMap := rfl
@[simp] theorem setLocks_staging (s : State) (x : LockUnit) : (s.setLocks x).staging = s.staging := rfl
@[simp] theorem setLocks_tracker (s : State) (x : LockUnit) : (s.setLocks x).tracker = s.tracker := rfl
@[simp] theorem setLocks_bus (s : State) (x : LockUnit) : (s.setLocks x).bus = s.bus := rfl
@[simp] theorem setLocks_locks (s : State) (x : LockUnit) : (s.setLocks x).locks = x := rfl
@[simp] theorem setLocks_master (s : State) (x : LockUnit) : (s.setLocks x).master = s.master := rfl
@[simp] theorem setLocks_events (s : State) (x : LockUnit) : (s.setLocks x).events = s.events := rfl
@[simp] theorem setLocks_faults (s : State) (x : LockUnit) : (s.setLocks x).faults = s.faults := rfl
@[simp] theorem setLocks_command (s : State) (x : LockUnit) : (s.setLocks x).command = s.command := rfl
@[simp] theorem setLocks_uplink (s : State) (x : LockUnit) : (s.setLocks x).uplink = s.uplink := rfl
@[simp] theorem setLocks_now (s : State) (x : LockUnit) : (s.setLocks x).now = s.now := rfl
@[simp] theorem setLocks_freeIndex (s : State) (x : LockUnit) : (s.setLocks x).freeIndex = s.freeIndex := rfl
@[simp] theorem setLocks_pending (s : State) (x : LockUnit) : (s.setLocks x).pending = s.pending := rfl

@[simp] theorem setMaster_pageMap (s : State) (x : BridgeMaster) : (s.setMaster x).pageMap = s.pageMap := rfl
@[simp] theorem setMaster_staging (s : State) (x : BridgeMaster) : (s.setMaster x).staging = s.staging := rfl
@[simp] theorem setMaster_tracker (s : State) (x : BridgeMaster) : (s.setMaster x).tracker = s.tracker := rfl
@[simp] theorem setMaster_bus (s : State) (x : BridgeMaster) : (s.setMaster x).bus = s.bus := rfl
@[simp] theorem setMaster_locks (s : State) (x : BridgeMaster) : (s.setMaster x).locks = s.locks := rfl
@[simp] theorem setMaster_master (s : State) (x : BridgeMaster) : (s.setMaster x).master = x := rfl
@[simp] theorem setMaster_events (s : State) (x : BridgeMaster) : (s.setMaster x).events = s.events := rfl
@[simp] theorem setMaster_faults (s : State) (x : BridgeMaster) : (s.setMaster x).faults = s.faults := rfl
@[simp] theorem setMaster_command (s : State) (x : BridgeMaster) : (s.setMaster x).command = s.command := rfl
@[simp] theorem setMaster_uplink (s : State) (x : BridgeMaster) : (s.setMaster x).uplink = s.uplink := rfl
@[simp] theorem setMaster_now (s : State) (x : BridgeMaster) : (s.setMaster x).now = s.now := rfl
@[simp] theorem setMaster_freeIndex (s : State) (x : BridgeMaster) : (s.setMaster x).freeIndex = s.freeIndex := rfl
@[simp] theorem setMaster_pending (s : State) (x : BridgeMaster) : (s.setMaster x).pending = s.pending := rfl

@[simp] theorem setEvents_pageMap (s : State) (x : EventUnit) : (s.setEvents x).pageMap = s.pageMap := rfl
@[simp] theorem setEvents_staging (s : State) (x : EventUnit) : (s.setEvents x).staging = s.staging := rfl
@[simp] theorem setEvents_tracker (s : State) (x : EventUnit) : (s.setEvents x).tracker = s.tracker := rfl
@[simp] theorem setEvents_bus (s : State) (x : EventUnit) : (s.setEvents x).bus = s.bus := rfl
@[simp] theorem setEvents_locks (s : State) (x : EventUnit) : (s.setEvents x).locks = s.locks := rfl
@[simp] theorem setEvents_master (s : State) (x : EventUnit) : (s.setEvents x).master = s.master := rfl
@[simp] theorem setEvents_events (s : State) (x : EventUnit) : (s.setEvents x).events = x := rfl
@[simp] theorem setEvents_faults (s : State) (x : EventUnit) : (s.setEvents x).faults = s.faults := rfl
@[simp] theorem setEvents_command (s : State) (x : EventUnit) : (s.setEvents x).command = s.command := rfl
@[simp] theorem setEvents_uplink (s : State) (x : EventUnit) : (s.setEvents x).uplink = s.uplink := rfl
@[simp] theorem setEvents_now (s : State) (x : EventUnit) : (s.setEvents x).now = s.now := rfl
@[simp] theorem setEvents_freeIndex (s : State) (x : EventUnit) : (s.setEvents x).freeIndex = s.freeIndex := rfl
@[simp] theorem setEvents_pending (s : State) (x : EventUnit) : (s.setEvents x).pending = s.pending := rfl

@[simp] theorem setFaults_pageMap (s : State) (x : FaultUnit) : (s.setFaults x).pageMap = s.pageMap := rfl
@[simp] theorem setFaults_staging (s : State) (x : FaultUnit) : (s.setFaults x).staging = s.staging := rfl
@[simp] theorem setFaults_tracker (s : State) (x : FaultUnit) : (s.setFaults x).tracker = s.tracker := rfl
@[simp] theorem setFaults_bus (s : State) (x : FaultUnit) : (s.setFaults x).bus = s.bus := rfl
@[simp] theorem setFaults_locks (s : State) (x : FaultUnit) : (s.setFaults x).locks = s.locks := rfl
@[simp] theorem setFaults_master (s : State) (x : FaultUnit) : (s.setFaults x).master = s.master := rfl
@[simp] theorem setFaults_events (s : State) (x : FaultUnit) : (s.setFaults x).events = s.events := rfl
@[simp] theorem setFaults_faults (s : State) (x : FaultUnit) : (s.setFaults x).faults = x := rfl
@[simp] theorem setFaults_command (s : State) (x : FaultUnit) : (s.setFaults x).command = s.command := rfl
@[simp] theorem setFaults_uplink (s : State) (x : FaultUnit) : (s.setFaults x).uplink = s.uplink := rfl
@[simp] theorem setFaults_now (s : State) (x : FaultUnit) : (s.setFaults x).now = s.now := rfl
@[simp] theorem setFaults_freeIndex (s : State) (x : FaultUnit) : (s.setFaults x).freeIndex = s.freeIndex := rfl
@[simp] theorem setFaults_pending (s : State) (x : FaultUnit) : (s.setFaults x).pending = s.pending := rfl

@[simp] theorem setCommand_pageMap (s : State) (x : CommandUnit) : (s.setCommand x).pageMap = s.pageMap := rfl
@[simp] theorem setCommand_staging (s : State) (x : CommandUnit) : (s.setCommand x).staging = s.staging := rfl
@[simp] theorem setCommand_tracker (s : State) (x : CommandUnit) : (s.setCommand x).tracker = s.tracker := rfl
@[simp] theorem setCommand_bus (s : State) (x : CommandUnit) : (s.setCommand x).bus = s.bus := rfl
@[simp] theorem setCommand_locks (s : State) (x : CommandUnit) : (s.setCommand x).locks = s.locks := rfl
@[simp] theorem setCommand_master (s : State) (x : CommandUnit) : (s.setCommand x).master = s.master := rfl
@[simp] theorem setCommand_events (s : State) (x : CommandUnit) : (s.setCommand x).events = s.events := rfl
@[simp] theorem setCommand_faults (s : State) (x : CommandUnit) : (s.setCommand x).faults = s.faults := rfl
@[simp] theorem setCommand_command (s : State) (x : CommandUnit) : (s.setCommand x).command = x := rfl
@[simp] theorem setCommand_uplink (s : State) (x : CommandUnit) : (s.setCommand x).uplink = s.uplink := rfl
@[simp] theorem setCommand_now (s : State) (x : CommandUnit) : (s.setCommand x).now = s.now := rfl
@[simp] theorem setCommand_freeIndex (s : State) (x : CommandUnit) : (s.setCommand x).freeIndex = s.freeIndex := rfl
@[simp] theorem setCommand_pending (s : State) (x : CommandUnit) : (s.setCommand x).pending = s.pending := rfl

@[simp] theorem setUplink_pageMap (s : State) (x : Uplink) : (s.setUplink x).pageMap = s.pageMap := rfl
@[simp] theorem setUplink_staging (s : State) (x : Uplink) : (s.setUplink x).staging = s.staging := rfl
@[simp] theorem setUplink_tracker (s : State) (x : Uplink) : (s.setUplink x).tracker = s.tracker := rfl
@[simp] theorem setUplink_bus (s : State) (x : Uplink) : (s.setUplink x).bus = s.bus := rfl
@[simp] theorem setUplink_locks (s : State) (x : Uplink) : (s.setUplink x).locks = s.locks := rfl
@[simp] theorem setUplink_master (s : State) (x : Uplink) : (s.setUplink x).master = s.master := rfl
@[simp] theorem setUplink_events (s : State) (x : Uplink) : (s.setUplink x).events = s.events := rfl
@[simp] theorem setUplink_faults (s : State) (x : Uplink) : (s.setUplink x).faults = s.faults := rfl
@[simp] theorem setUplink_command (s : State) (x : Uplink) : (s.setUplink x).command = s.command := rfl
@[simp] theorem setUplink_uplink (s : State) (x : Uplink) : (s.setUplink x).uplink = x := rfl
@[simp] theorem setUplink_now (s : State) (x : Uplink) : (s.setUplink x).now = s.now := rfl
@[simp] theorem setUplink_freeIndex (s : State) (x : Uplink) : (s.setUplink x).freeIndex = s.freeIndex := rfl
@[simp] theorem setUplink_pending (s : State) (x : Uplink) : (s.setUplink x).pending = s.pending := rfl

@[simp] theorem setNow_pageMap (s : State) (x : Time) : (s.setNow x).pageMap = s.pageMap := rfl
@[simp] theorem setNow_staging (s : State) (x : Time) : (s.setNow x).staging = s.staging := rfl
@[simp] theorem setNow_tracker (s : State) (x : Time) : (s.setNow x).tracker = s.tracker := rfl
@[simp] theorem setNow_bus (s : State) (x : Time) : (s.setNow x).bus = s.bus := rfl
@[simp] theorem setNow_locks (s : State) (x : Time) : (s.setNow x).locks = s.locks := rfl
@[simp] theorem setNow_master (s : State) (x : Time) : (s.setNow x).master = s.master := rfl
@[simp] theorem setNow_events (s : State) (x : Time) : (s.setNow x).events = s.events := rfl
@[simp] theorem setNow_faults (s : State) (x : Time) : (s.setNow x).faults = s.faults := rfl
@[simp] theorem setNow_command (s : State) (x : Time) : (s.setNow x).command = s.command := rfl
@[simp] theorem setNow_uplink (s : State) (x : Time) : (s.setNow x).uplink = s.uplink := rfl
@[simp] theorem setNow_now (s : State) (x : Time) : (s.setNow x).now = x := rfl
@[simp] theorem setNow_freeIndex (s : State) (x : Time) : (s.setNow x).freeIndex = s.freeIndex := rfl
@[simp] theorem setNow_pending (s : State) (x : Time) : (s.setNow x).pending = s.pending := rfl

@[simp] theorem setFreeIndex_pageMap (s : State) (x : Nat) : (s.setFreeIndex x).pageMap = s.pageMap := rfl
@[simp] theorem setFreeIndex_staging (s : State) (x : Nat) : (s.setFreeIndex x).staging = s.staging := rfl
@[simp] theorem setFreeIndex_tracker (s : State) (x : Nat) : (s.setFreeIndex x).tracker = s.tracker := rfl
@[simp] theorem setFreeIndex_bus (s : State) (x : Nat) : (s.setFreeIndex x).bus = s.bus := rfl
@[simp] theorem setFreeIndex_locks (s : State) (x : Nat) : (s.setFreeIndex x).locks = s.locks := rfl
@[simp] theorem setFreeIndex_master (s : State) (x : Nat) : (s.setFreeIndex x).master = s.master := rfl
@[simp] theorem setFreeIndex_events (s : State) (x : Nat) : (s.setFreeIndex x).events = s.events := rfl
@[simp] theorem setFreeIndex_faults (s : State) (x : Nat) : (s.setFreeIndex x).faults = s.faults := rfl
@[simp] theorem setFreeIndex_command (s : State) (x : Nat) : (s.setFreeIndex x).command = s.command := rfl
@[simp] theorem setFreeIndex_uplink (s : State) (x : Nat) : (s.setFreeIndex x).uplink = s.uplink := rfl
@[simp] theorem setFreeIndex_now (s : State) (x : Nat) : (s.setFreeIndex x).now = s.now := rfl
@[simp] theorem setFreeIndex_freeIndex (s : State) (x : Nat) : (s.setFreeIndex x).freeIndex = x := rfl
@[simp] theorem setFreeIndex_pending (s : State) (x : Nat) : (s.setFreeIndex x).pending = s.pending := rfl

@[simp] theorem setPending_pageMap (s : State) (x : List Instr) : (s.setPending x).pageMap = s.pageMap := rfl
@[simp] theorem setPending_staging (s : State) (x : List Instr) : (s.setPending x).staging = s.staging := rfl
@[simp] theorem setPending_tracker (s : State) (x : List Instr) : (s.setPending x).tracker = s.tracker := rfl
@[simp] theorem setPending_bus (s : State) (x : List Instr) : (s.setPending x).bus = s.bus := rfl
@[simp] theorem setPending_locks (s : State) (x : List Instr) : (s.setPending x).locks = s.locks := rfl
@[simp] theorem setPending_master (s : State) (x : List Instr) : (s.setPending x).master = s.master := rfl
@[simp] theorem setPending_events (s : State) (x : List Instr) : (s.setPending x).events = s.events := rfl
@[simp] theorem setPending_faults (s : State) (x : List Instr) : (s.setPending x).faults = s.faults := rfl
@[simp] theorem setPending_command (s : State) (x : List Instr) : (s.setPending x).command = s.command := rfl
@[simp] theorem setPending_uplink (s : State) (x : List Instr) : (s.setPending x).uplink = s.uplink := rfl
@[simp] theorem setPending_now (s : State) (x : List Instr) : (s.setPending x).now = s.now := rfl
@[simp] theorem setPending_freeIndex (s : State) (x : List Instr) : (s.setPending x).freeIndex = s.freeIndex := rfl
@[simp] theorem setPending_pending (s : State) (x : List Instr) : (s.setPending x).pending = x := rfl

end Sys2Proof.Machine.State
end

