-- ==== Sys2Proof/Laws/Frames.lean ====
section
/-! SUPPORT. The frame of each shared operation: the fields of the state that it leaves as they are, one lemma an operation,
so that no proof unfolds the operation for them. -/

namespace Sys2Proof.Machine

/-- An allocation changes the tracker alone. -/
theorem allocateTag_frame {r : Request} {s t : State} {tag : TagRef} (h : allocateTag r s = some (tag, t)) :
    t.pageMap = s.pageMap ∧ t.staging = s.staging ∧ t.bus = s.bus ∧ t.locks = s.locks ∧ t.master = s.master ∧
    t.events = s.events ∧ t.faults = s.faults ∧ t.command = s.command ∧ t.uplink = s.uplink ∧ t.now = s.now ∧
    t.freeIndex = s.freeIndex ∧ t.pending = s.pending := by
  unfold allocateTag at h
  split at h
  · simp at h
  · simp only [Option.some.injEq, Prod.mk.injEq] at h
    obtain ⟨_, rfl⟩ := h
    simp

@[simp] theorem passTo_frame (d : Time) (s : State) :
    (passTo d s).pageMap = s.pageMap ∧ (passTo d s).staging = s.staging ∧ (passTo d s).tracker = s.tracker ∧
    (passTo d s).bus = s.bus ∧ (passTo d s).locks = s.locks ∧ (passTo d s).master = s.master ∧
    (passTo d s).events = s.events ∧ (passTo d s).faults = s.faults ∧ (passTo d s).command = s.command ∧
    (passTo d s).uplink = s.uplink ∧ (passTo d s).freeIndex = s.freeIndex ∧ (passTo d s).pending = s.pending := by
  simp [passTo]

@[simp] theorem setSlot_frame (slot : Slot) (r : SlotRecord) (s : State) :
    (setSlot slot r s).pageMap = s.pageMap ∧ (setSlot slot r s).staging = s.staging ∧
    (setSlot slot r s).tracker = s.tracker ∧ (setSlot slot r s).locks = s.locks ∧
    (setSlot slot r s).master = s.master ∧ (setSlot slot r s).events = s.events ∧
    (setSlot slot r s).faults = s.faults ∧ (setSlot slot r s).command = s.command ∧
    (setSlot slot r s).uplink = s.uplink ∧ (setSlot slot r s).now = s.now ∧
    (setSlot slot r s).freeIndex = s.freeIndex ∧ (setSlot slot r s).pending = s.pending := by
  simp [setSlot]

@[simp] theorem holdInReset_frame (slot : Slot) (r : SlotRecord) (s : State) :
    (holdInReset slot r s).pageMap = s.pageMap ∧ (holdInReset slot r s).staging = s.staging ∧
    (holdInReset slot r s).tracker = s.tracker ∧ (holdInReset slot r s).locks = s.locks ∧
    (holdInReset slot r s).master = s.master ∧ (holdInReset slot r s).events = s.events ∧
    (holdInReset slot r s).faults = s.faults ∧ (holdInReset slot r s).command = s.command ∧
    (holdInReset slot r s).uplink = s.uplink ∧ (holdInReset slot r s).now = s.now ∧
    (holdInReset slot r s).freeIndex = s.freeIndex ∧ (holdInReset slot r s).pending = s.pending := by
  simp [holdInReset]

@[simp] theorem endOwnership_frame (slot : Slot) (s : State) :
    (endOwnership slot s).pageMap = s.pageMap ∧ (endOwnership slot s).staging = s.staging ∧
    (endOwnership slot s).tracker = s.tracker ∧ (endOwnership slot s).locks = s.locks ∧
    (endOwnership slot s).master = s.master ∧ (endOwnership slot s).events = s.events ∧
    (endOwnership slot s).faults = s.faults ∧ (endOwnership slot s).command = s.command ∧
    (endOwnership slot s).uplink = s.uplink ∧ (endOwnership slot s).now = s.now ∧
    (endOwnership slot s).freeIndex = s.freeIndex ∧ (endOwnership slot s).pending = s.pending := by
  unfold endOwnership
  (repeat' split) <;> simp

@[simp] theorem queueReport_frame (f : ReportFrame) (s : State) :
    (queueReport f s).pageMap = s.pageMap ∧ (queueReport f s).staging = s.staging ∧
    (queueReport f s).tracker = s.tracker ∧ (queueReport f s).bus = s.bus ∧ (queueReport f s).locks = s.locks ∧
    (queueReport f s).master = s.master ∧ (queueReport f s).events = s.events ∧ (queueReport f s).faults = s.faults ∧
    (queueReport f s).uplink = s.uplink ∧ (queueReport f s).now = s.now ∧ (queueReport f s).freeIndex = s.freeIndex ∧
    (queueReport f s).pending = s.pending := by
  simp [queueReport]

@[simp] theorem returnCredit_frame (s : State) :
    (returnCredit s).pageMap = s.pageMap ∧ (returnCredit s).staging = s.staging ∧
    (returnCredit s).tracker = s.tracker ∧ (returnCredit s).bus = s.bus ∧ (returnCredit s).locks = s.locks ∧
    (returnCredit s).master = s.master ∧ (returnCredit s).events = s.events ∧ (returnCredit s).faults = s.faults ∧
    (returnCredit s).command = s.command ∧ (returnCredit s).now = s.now ∧ (returnCredit s).pending = s.pending := by
  unfold returnCredit
  (repeat' split) <;> simp

@[simp] theorem complete_frame (c : ResultCode) (b : List Byte) (s : State) :
    (complete c b s).pageMap = s.pageMap ∧ (complete c b s).staging = s.staging ∧
    (complete c b s).tracker = s.tracker ∧ (complete c b s).bus = s.bus ∧ (complete c b s).locks = s.locks ∧
    (complete c b s).master = s.master ∧ (complete c b s).events = s.events ∧ (complete c b s).faults = s.faults ∧
    (complete c b s).uplink = s.uplink ∧ (complete c b s).now = s.now ∧ (complete c b s).freeIndex = s.freeIndex ∧
    (complete c b s).pending = s.pending := by
  unfold complete
  (repeat' split) <;> simp

@[simp] theorem setWait_frame (w : Wait) (s : State) :
    (setWait w s).pageMap = s.pageMap ∧ (setWait w s).staging = s.staging ∧ (setWait w s).tracker = s.tracker ∧
    (setWait w s).bus = s.bus ∧ (setWait w s).locks = s.locks ∧ (setWait w s).master = s.master ∧
    (setWait w s).events = s.events ∧ (setWait w s).faults = s.faults ∧ (setWait w s).uplink = s.uplink ∧
    (setWait w s).now = s.now ∧ (setWait w s).freeIndex = s.freeIndex ∧ (setWait w s).pending = s.pending := by
  unfold setWait
  (repeat' split) <;> simp

@[simp] theorem setLine_frame (i : LineIx) (l : Line) (s : State) :
    (setLine i l s).pageMap = s.pageMap ∧ (setLine i l s).tracker = s.tracker ∧ (setLine i l s).bus = s.bus ∧
    (setLine i l s).locks = s.locks ∧ (setLine i l s).master = s.master ∧ (setLine i l s).events = s.events ∧
    (setLine i l s).faults = s.faults ∧ (setLine i l s).command = s.command ∧ (setLine i l s).uplink = s.uplink ∧
    (setLine i l s).now = s.now ∧ (setLine i l s).freeIndex = s.freeIndex ∧ (setLine i l s).pending = s.pending := by
  unfold setLine
  (repeat' split) <;> simp

@[simp] theorem closeLine_frame (s : State) (i : LineIx) :
    (closeLine s i).pageMap = s.pageMap ∧ (closeLine s i).tracker = s.tracker ∧ (closeLine s i).bus = s.bus ∧
    (closeLine s i).locks = s.locks ∧ (closeLine s i).master = s.master ∧ (closeLine s i).events = s.events ∧
    (closeLine s i).faults = s.faults ∧ (closeLine s i).command = s.command ∧ (closeLine s i).uplink = s.uplink ∧
    (closeLine s i).now = s.now ∧ (closeLine s i).freeIndex = s.freeIndex ∧ (closeLine s i).pending = s.pending := by
  unfold closeLine
  (repeat' split) <;> simp

@[simp] theorem closeLines_frame (is : List LineIx) (s : State) :
    (is.foldl closeLine s).pageMap = s.pageMap ∧ (is.foldl closeLine s).tracker = s.tracker ∧
    (is.foldl closeLine s).bus = s.bus ∧ (is.foldl closeLine s).locks = s.locks ∧
    (is.foldl closeLine s).master = s.master ∧ (is.foldl closeLine s).events = s.events ∧
    (is.foldl closeLine s).faults = s.faults ∧ (is.foldl closeLine s).command = s.command ∧
    (is.foldl closeLine s).uplink = s.uplink ∧ (is.foldl closeLine s).now = s.now ∧
    (is.foldl closeLine s).freeIndex = s.freeIndex ∧ (is.foldl closeLine s).pending = s.pending := by
  induction is generalizing s with
  | nil => simp
  | cons i is ih => simp [ih]

@[simp] theorem closeWhere_frame (p : Binding → Bool) (s : State) :
    (closeWhere p s).pageMap = s.pageMap ∧ (closeWhere p s).tracker = s.tracker ∧ (closeWhere p s).bus = s.bus ∧
    (closeWhere p s).locks = s.locks ∧ (closeWhere p s).master = s.master ∧ (closeWhere p s).events = s.events ∧
    (closeWhere p s).faults = s.faults ∧ (closeWhere p s).command = s.command ∧ (closeWhere p s).uplink = s.uplink ∧
    (closeWhere p s).now = s.now ∧ (closeWhere p s).pending = s.pending := by
  simp [closeWhere]

@[simp] theorem closeGathering_frame (slot : Slot) (s : State) :
    (closeGathering slot s).pageMap = s.pageMap ∧ (closeGathering slot s).tracker = s.tracker ∧
    (closeGathering slot s).bus = s.bus ∧ (closeGathering slot s).locks = s.locks ∧
    (closeGathering slot s).master = s.master ∧ (closeGathering slot s).events = s.events ∧
    (closeGathering slot s).faults = s.faults ∧ (closeGathering slot s).command = s.command ∧
    (closeGathering slot s).uplink = s.uplink ∧ (closeGathering slot s).now = s.now ∧
    (closeGathering slot s).freeIndex = s.freeIndex ∧ (closeGathering slot s).pending = s.pending := by
  simp [closeGathering]

@[simp] theorem freeReads_frame (p : Line → Bool) (s : State) :
    (freeReads p s).pageMap = s.pageMap ∧ (freeReads p s).tracker = s.tracker ∧ (freeReads p s).bus = s.bus ∧
    (freeReads p s).locks = s.locks ∧ (freeReads p s).master = s.master ∧ (freeReads p s).events = s.events ∧
    (freeReads p s).faults = s.faults ∧ (freeReads p s).command = s.command ∧ (freeReads p s).uplink = s.uplink ∧
    (freeReads p s).now = s.now ∧ (freeReads p s).freeIndex = s.freeIndex ∧ (freeReads p s).pending = s.pending := by
  simp [freeReads]

@[simp] theorem freeSlotReads_frame (slot : Slot) (s : State) :
    (freeSlotReads slot s).pageMap = s.pageMap ∧ (freeSlotReads slot s).tracker = s.tracker ∧
    (freeSlotReads slot s).bus = s.bus ∧ (freeSlotReads slot s).locks = s.locks ∧
    (freeSlotReads slot s).master = s.master ∧ (freeSlotReads slot s).events = s.events ∧
    (freeSlotReads slot s).faults = s.faults ∧ (freeSlotReads slot s).command = s.command ∧
    (freeSlotReads slot s).uplink = s.uplink ∧ (freeSlotReads slot s).now = s.now ∧
    (freeSlotReads slot s).freeIndex = s.freeIndex ∧ (freeSlotReads slot s).pending = s.pending := by
  simp [freeSlotReads]

@[simp] theorem freeAllReads_frame (s : State) :
    (freeAllReads s).pageMap = s.pageMap ∧ (freeAllReads s).tracker = s.tracker ∧ (freeAllReads s).bus = s.bus ∧
    (freeAllReads s).locks = s.locks ∧ (freeAllReads s).master = s.master ∧ (freeAllReads s).events = s.events ∧
    (freeAllReads s).faults = s.faults ∧ (freeAllReads s).command = s.command ∧ (freeAllReads s).uplink = s.uplink ∧
    (freeAllReads s).now = s.now ∧ (freeAllReads s).freeIndex = s.freeIndex ∧
    (freeAllReads s).pending = s.pending := by
  simp [freeAllReads]

@[simp] theorem quiesceSlot_frame (slot : Slot) (s : State) :
    (quiesceSlot slot s).pageMap = s.pageMap ∧ (quiesceSlot slot s).tracker = s.tracker ∧
    (quiesceSlot slot s).bus = s.bus ∧ (quiesceSlot slot s).locks = s.locks ∧ (quiesceSlot slot s).master = s.master ∧
    (quiesceSlot slot s).events = s.events ∧ (quiesceSlot slot s).faults = s.faults ∧
    (quiesceSlot slot s).command = s.command ∧ (quiesceSlot slot s).uplink = s.uplink ∧
    (quiesceSlot slot s).now = s.now ∧ (quiesceSlot slot s).freeIndex = s.freeIndex ∧
    (quiesceSlot slot s).pending = s.pending := by
  simp [quiesceSlot]

@[simp] theorem mergeInto_frame (i : LineIx) (o : Nat) (b : List Byte) (s : State) :
    (mergeInto i o b s).pageMap = s.pageMap ∧ (mergeInto i o b s).tracker = s.tracker ∧
    (mergeInto i o b s).bus = s.bus ∧ (mergeInto i o b s).locks = s.locks ∧ (mergeInto i o b s).master = s.master ∧
    (mergeInto i o b s).events = s.events ∧ (mergeInto i o b s).faults = s.faults ∧
    (mergeInto i o b s).command = s.command ∧ (mergeInto i o b s).uplink = s.uplink ∧
    (mergeInto i o b s).now = s.now ∧ (mergeInto i o b s).freeIndex = s.freeIndex ∧
    (mergeInto i o b s).pending = s.pending := by
  unfold mergeInto
  dsimp only
  (repeat' split) <;> simp

@[simp] theorem bindGathering_frame (i : LineIx) (b : Binding) (s : State) :
    (bindGathering i b s).pageMap = s.pageMap ∧ (bindGathering i b s).tracker = s.tracker ∧
    (bindGathering i b s).bus = s.bus ∧ (bindGathering i b s).locks = s.locks ∧
    (bindGathering i b s).master = s.master ∧ (bindGathering i b s).events = s.events ∧
    (bindGathering i b s).faults = s.faults ∧ (bindGathering i b s).command = s.command ∧
    (bindGathering i b s).uplink = s.uplink ∧ (bindGathering i b s).now = s.now ∧
    (bindGathering i b s).pending = s.pending := by
  simp [bindGathering]

@[simp] theorem setDrains_frame (slot : Slot) (d : SlotDrains) (s : State) :
    (setDrains slot d s).pageMap = s.pageMap ∧ (setDrains slot d s).tracker = s.tracker ∧
    (setDrains slot d s).bus = s.bus ∧ (setDrains slot d s).locks = s.locks ∧ (setDrains slot d s).master = s.master ∧
    (setDrains slot d s).events = s.events ∧ (setDrains slot d s).faults = s.faults ∧
    (setDrains slot d s).command = s.command ∧ (setDrains slot d s).uplink = s.uplink ∧
    (setDrains slot d s).now = s.now ∧ (setDrains slot d s).freeIndex = s.freeIndex ∧
    (setDrains slot d s).pending = s.pending := by
  simp [setDrains]

@[simp] theorem startSlotDrain_frame (r : Requester) (slot : Slot) (s : State) :
    (startSlotDrain r slot s).pageMap = s.pageMap ∧ (startSlotDrain r slot s).tracker = s.tracker ∧
    (startSlotDrain r slot s).bus = s.bus ∧ (startSlotDrain r slot s).locks = s.locks ∧
    (startSlotDrain r slot s).master = s.master ∧ (startSlotDrain r slot s).events = s.events ∧
    (startSlotDrain r slot s).faults = s.faults ∧ (startSlotDrain r slot s).command = s.command ∧
    (startSlotDrain r slot s).uplink = s.uplink ∧ (startSlotDrain r slot s).now = s.now ∧
    (startSlotDrain r slot s).freeIndex = s.freeIndex ∧ (startSlotDrain r slot s).pending = s.pending := by
  unfold startSlotDrain
  (repeat' split) <;> simp

@[simp] theorem dropEventDrain_frame (slot : Slot) (s : State) :
    (dropEventDrain slot s).pageMap = s.pageMap ∧ (dropEventDrain slot s).tracker = s.tracker ∧
    (dropEventDrain slot s).bus = s.bus ∧ (dropEventDrain slot s).locks = s.locks ∧
    (dropEventDrain slot s).master = s.master ∧ (dropEventDrain slot s).events = s.events ∧
    (dropEventDrain slot s).faults = s.faults ∧ (dropEventDrain slot s).command = s.command ∧
    (dropEventDrain slot s).uplink = s.uplink ∧ (dropEventDrain slot s).now = s.now ∧
    (dropEventDrain slot s).freeIndex = s.freeIndex ∧ (dropEventDrain slot s).pending = s.pending := by
  simp [dropEventDrain]

@[simp] theorem dropEpisodeDrain_frame (slot : Slot) (s : State) :
    (dropEpisodeDrain slot s).pageMap = s.pageMap ∧ (dropEpisodeDrain slot s).tracker = s.tracker ∧
    (dropEpisodeDrain slot s).bus = s.bus ∧ (dropEpisodeDrain slot s).locks = s.locks ∧
    (dropEpisodeDrain slot s).master = s.master ∧ (dropEpisodeDrain slot s).events = s.events ∧
    (dropEpisodeDrain slot s).faults = s.faults ∧ (dropEpisodeDrain slot s).command = s.command ∧
    (dropEpisodeDrain slot s).uplink = s.uplink ∧ (dropEpisodeDrain slot s).now = s.now ∧
    (dropEpisodeDrain slot s).freeIndex = s.freeIndex ∧ (dropEpisodeDrain slot s).pending = s.pending := by
  simp [dropEpisodeDrain]

@[simp] theorem startGlobalDrain_frame (s : State) :
    (startGlobalDrain s).pageMap = s.pageMap ∧ (startGlobalDrain s).tracker = s.tracker ∧
    (startGlobalDrain s).bus = s.bus ∧ (startGlobalDrain s).locks = s.locks ∧ (startGlobalDrain s).master = s.master ∧
    (startGlobalDrain s).events = s.events ∧ (startGlobalDrain s).faults = s.faults ∧
    (startGlobalDrain s).command = s.command ∧ (startGlobalDrain s).uplink = s.uplink ∧
    (startGlobalDrain s).now = s.now ∧ (startGlobalDrain s).pending = s.pending := by
  simp [startGlobalDrain]

@[simp] theorem startMapBarrier_frame (p : Binding → Bool) (s : State) :
    (startMapBarrier p s).pageMap = s.pageMap ∧ (startMapBarrier p s).tracker = s.tracker ∧
    (startMapBarrier p s).bus = s.bus ∧ (startMapBarrier p s).locks = s.locks ∧
    (startMapBarrier p s).master = s.master ∧ (startMapBarrier p s).events = s.events ∧
    (startMapBarrier p s).faults = s.faults ∧ (startMapBarrier p s).command = s.command ∧
    (startMapBarrier p s).uplink = s.uplink ∧ (startMapBarrier p s).now = s.now ∧
    (startMapBarrier p s).pending = s.pending := by
  simp [startMapBarrier]

@[simp] theorem lineResult_frame (i : LineIx) (r : FetchResult) (s : State) :
    (lineResult i r s).pageMap = s.pageMap ∧ (lineResult i r s).tracker = s.tracker ∧ (lineResult i r s).bus = s.bus ∧
    (lineResult i r s).locks = s.locks ∧ (lineResult i r s).master = s.master ∧ (lineResult i r s).events = s.events ∧
    (lineResult i r s).faults = s.faults ∧ (lineResult i r s).command = s.command ∧
    (lineResult i r s).uplink = s.uplink ∧ (lineResult i r s).now = s.now ∧
    (lineResult i r s).freeIndex = s.freeIndex ∧ (lineResult i r s).pending = s.pending := by
  unfold lineResult
  (repeat' split) <;> simp

@[simp] theorem fence_frame (slot : Slot) (s : State) :
    (fence slot s).pageMap = s.pageMap ∧ (fence slot s).tracker = s.tracker ∧ (fence slot s).locks = s.locks ∧
    (fence slot s).master = s.master ∧ (fence slot s).events = s.events ∧ (fence slot s).faults = s.faults ∧
    (fence slot s).command = s.command ∧ (fence slot s).uplink = s.uplink ∧ (fence slot s).now = s.now ∧
    (fence slot s).freeIndex = s.freeIndex ∧ (fence slot s).pending = s.pending := by
  unfold fence
  dsimp only
  (repeat' split) <;> simp

@[simp] theorem markSummary_frame (r : FaultReport) (s : State) :
    (markSummary r s).pageMap = s.pageMap ∧ (markSummary r s).staging = s.staging ∧
    (markSummary r s).tracker = s.tracker ∧ (markSummary r s).bus = s.bus ∧ (markSummary r s).locks = s.locks ∧
    (markSummary r s).master = s.master ∧ (markSummary r s).events = s.events ∧
    (markSummary r s).command = s.command ∧ (markSummary r s).uplink = s.uplink ∧ (markSummary r s).now = s.now ∧
    (markSummary r s).freeIndex = s.freeIndex ∧ (markSummary r s).pending = s.pending := by
  unfold markSummary
  (repeat' split) <;> simp

@[simp] theorem applyAutofence_frame (r : FaultReport) (s : State) :
    (applyAutofence r s).pageMap = s.pageMap ∧ (applyAutofence r s).tracker = s.tracker ∧
    (applyAutofence r s).locks = s.locks ∧ (applyAutofence r s).master = s.master ∧
    (applyAutofence r s).events = s.events ∧ (applyAutofence r s).faults = s.faults ∧
    (applyAutofence r s).command = s.command ∧ (applyAutofence r s).uplink = s.uplink ∧
    (applyAutofence r s).now = s.now ∧ (applyAutofence r s).freeIndex = s.freeIndex ∧
    (applyAutofence r s).pending = s.pending := by
  unfold applyAutofence
  (repeat' split) <;> simp

@[simp] theorem admitFault_frame (r : FaultReport) (f : Bool) (s : State) :
    (admitFault r f s).pageMap = s.pageMap ∧ (admitFault r f s).staging = s.staging ∧
    (admitFault r f s).tracker = s.tracker ∧ (admitFault r f s).bus = s.bus ∧ (admitFault r f s).locks = s.locks ∧
    (admitFault r f s).master = s.master ∧ (admitFault r f s).events = s.events ∧
    (admitFault r f s).command = s.command ∧ (admitFault r f s).uplink = s.uplink ∧ (admitFault r f s).now = s.now ∧
    (admitFault r f s).freeIndex = s.freeIndex ∧ (admitFault r f s).pending = s.pending := by
  unfold admitFault
  (repeat' split) <;> simp

@[simp] theorem takeFault_frame (r : FaultReport) (s : State) :
    (takeFault r s).pageMap = s.pageMap ∧ (takeFault r s).tracker = s.tracker ∧ (takeFault r s).locks = s.locks ∧
    (takeFault r s).master = s.master ∧ (takeFault r s).events = s.events ∧ (takeFault r s).command = s.command ∧
    (takeFault r s).uplink = s.uplink ∧ (takeFault r s).now = s.now ∧ (takeFault r s).freeIndex = s.freeIndex ∧
    (takeFault r s).pending = s.pending := by
  simp [takeFault]

@[simp] theorem retireTag_frame (i : TagIx) (s : State) :
    (retireTag i s).pageMap = s.pageMap ∧ (retireTag i s).staging = s.staging ∧ (retireTag i s).bus = s.bus ∧
    (retireTag i s).locks = s.locks ∧ (retireTag i s).master = s.master ∧ (retireTag i s).events = s.events ∧
    (retireTag i s).faults = s.faults ∧ (retireTag i s).command = s.command ∧ (retireTag i s).uplink = s.uplink ∧
    (retireTag i s).now = s.now ∧ (retireTag i s).freeIndex = s.freeIndex ∧ (retireTag i s).pending = s.pending := by
  simp [retireTag]

@[simp] theorem joinPosted_frame (slot : Slot) (k : PostedKind) (a : HostAddr) (l : Bool) (s : State) :
    (joinPosted slot k a l s).pageMap = s.pageMap ∧ (joinPosted slot k a l s).staging = s.staging ∧
    (joinPosted slot k a l s).bus = s.bus ∧ (joinPosted slot k a l s).locks = s.locks ∧
    (joinPosted slot k a l s).master = s.master ∧ (joinPosted slot k a l s).events = s.events ∧
    (joinPosted slot k a l s).faults = s.faults ∧ (joinPosted slot k a l s).command = s.command ∧
    (joinPosted slot k a l s).uplink = s.uplink ∧ (joinPosted slot k a l s).now = s.now ∧
    (joinPosted slot k a l s).freeIndex = s.freeIndex ∧ (joinPosted slot k a l s).pending = s.pending := by
  simp [joinPosted]

@[simp] theorem postWrite_frame (slot : Slot) (a : HostAddr) (b : List Byte) (l : Bool) (s : State) :
    (postWrite slot a b l s).pageMap = s.pageMap ∧ (postWrite slot a b l s).staging = s.staging ∧
    (postWrite slot a b l s).bus = s.bus ∧ (postWrite slot a b l s).locks = s.locks ∧
    (postWrite slot a b l s).master = s.master ∧ (postWrite slot a b l s).events = s.events ∧
    (postWrite slot a b l s).faults = s.faults ∧ (postWrite slot a b l s).command = s.command ∧
    (postWrite slot a b l s).uplink = s.uplink ∧ (postWrite slot a b l s).now = s.now ∧
    (postWrite slot a b l s).pending = s.pending := by
  simp [postWrite]

@[simp] theorem leavePosted_frame (rest : List PostedEntry) (s : State) :
    (leavePosted rest s).pageMap = s.pageMap ∧ (leavePosted rest s).staging = s.staging ∧
    (leavePosted rest s).bus = s.bus ∧ (leavePosted rest s).locks = s.locks ∧ (leavePosted rest s).master = s.master ∧
    (leavePosted rest s).events = s.events ∧ (leavePosted rest s).faults = s.faults ∧
    (leavePosted rest s).command = s.command ∧ (leavePosted rest s).uplink = s.uplink ∧
    (leavePosted rest s).now = s.now ∧ (leavePosted rest s).freeIndex = s.freeIndex ∧
    (leavePosted rest s).pending = s.pending := by
  simp [leavePosted]

@[simp] theorem reportTransmitted_frame (p : PostedEntry) (s : State) :
    (reportTransmitted p s).pageMap = s.pageMap ∧ (reportTransmitted p s).tracker = s.tracker ∧
    (reportTransmitted p s).bus = s.bus ∧ (reportTransmitted p s).locks = s.locks ∧
    (reportTransmitted p s).master = s.master ∧ (reportTransmitted p s).events = s.events ∧
    (reportTransmitted p s).faults = s.faults ∧ (reportTransmitted p s).command = s.command ∧
    (reportTransmitted p s).uplink = s.uplink ∧ (reportTransmitted p s).now = s.now ∧
    (reportTransmitted p s).freeIndex = s.freeIndex ∧ (reportTransmitted p s).pending = s.pending := by
  unfold reportTransmitted
  (repeat' split) <;> simp

@[simp] theorem moveClosed_frame (s : State) :
    (moveClosed s).pageMap = s.pageMap ∧ (moveClosed s).bus = s.bus ∧ (moveClosed s).locks = s.locks ∧
    (moveClosed s).master = s.master ∧ (moveClosed s).events = s.events ∧ (moveClosed s).faults = s.faults ∧
    (moveClosed s).command = s.command ∧ (moveClosed s).uplink = s.uplink ∧ (moveClosed s).now = s.now ∧
    (moveClosed s).freeIndex = s.freeIndex ∧ (moveClosed s).pending = s.pending := by
  unfold moveClosed
  (repeat' split) <;> simp

@[simp] theorem awaitBarrier_frame (s : State) :
    (awaitBarrier s).pageMap = s.pageMap ∧ (awaitBarrier s).staging = s.staging ∧
    (awaitBarrier s).tracker = s.tracker ∧ (awaitBarrier s).bus = s.bus ∧ (awaitBarrier s).locks = s.locks ∧
    (awaitBarrier s).master = s.master ∧ (awaitBarrier s).events = s.events ∧ (awaitBarrier s).faults = s.faults ∧
    (awaitBarrier s).uplink = s.uplink ∧ (awaitBarrier s).now = s.now ∧ (awaitBarrier s).freeIndex = s.freeIndex ∧
    (awaitBarrier s).pending = s.pending := by
  unfold awaitBarrier
  (repeat' split) <;> simp

@[simp] theorem awaitDrain_frame (s : State) :
    (awaitDrain s).pageMap = s.pageMap ∧ (awaitDrain s).staging = s.staging ∧ (awaitDrain s).tracker = s.tracker ∧
    (awaitDrain s).bus = s.bus ∧ (awaitDrain s).locks = s.locks ∧ (awaitDrain s).master = s.master ∧
    (awaitDrain s).events = s.events ∧ (awaitDrain s).faults = s.faults ∧ (awaitDrain s).uplink = s.uplink ∧
    (awaitDrain s).now = s.now ∧ (awaitDrain s).freeIndex = s.freeIndex ∧ (awaitDrain s).pending = s.pending := by
  unfold awaitDrain
  (repeat' split) <;> simp

@[simp] theorem drainAndFree_frame (s : State) :
    (drainAndFree s).pageMap = s.pageMap ∧ (drainAndFree s).tracker = s.tracker ∧ (drainAndFree s).bus = s.bus ∧
    (drainAndFree s).locks = s.locks ∧ (drainAndFree s).master = s.master ∧ (drainAndFree s).events = s.events ∧
    (drainAndFree s).faults = s.faults ∧ (drainAndFree s).command = s.command ∧ (drainAndFree s).uplink = s.uplink ∧
    (drainAndFree s).now = s.now ∧ (drainAndFree s).pending = s.pending := by
  simp [drainAndFree]

@[simp] theorem startMapWrite_frame (first : Nat) (r : List EntryFields) (s : State) :
    (startMapWrite first r s).tracker = s.tracker ∧ (startMapWrite first r s).bus = s.bus ∧
    (startMapWrite first r s).locks = s.locks ∧ (startMapWrite first r s).master = s.master ∧
    (startMapWrite first r s).events = s.events ∧ (startMapWrite first r s).faults = s.faults ∧
    (startMapWrite first r s).uplink = s.uplink ∧ (startMapWrite first r s).now = s.now ∧
    (startMapWrite first r s).pending = s.pending := by
  simp [startMapWrite]

@[simp] theorem startMapInvalidate_frame (first count : Nat) (s : State) :
    (startMapInvalidate first count s).tracker = s.tracker ∧ (startMapInvalidate first count s).bus = s.bus ∧
    (startMapInvalidate first count s).locks = s.locks ∧ (startMapInvalidate first count s).master = s.master ∧
    (startMapInvalidate first count s).events = s.events ∧ (startMapInvalidate first count s).faults = s.faults ∧
    (startMapInvalidate first count s).uplink = s.uplink ∧ (startMapInvalidate first count s).now = s.now ∧
    (startMapInvalidate first count s).pending = s.pending := by
  simp [startMapInvalidate]

@[simp] theorem startWindowSet_frame (on : Bool) (b : CardAddr) (s : State) :
    (startWindowSet on b s).tracker = s.tracker ∧ (startWindowSet on b s).bus = s.bus ∧
    (startWindowSet on b s).locks = s.locks ∧ (startWindowSet on b s).master = s.master ∧
    (startWindowSet on b s).events = s.events ∧ (startWindowSet on b s).faults = s.faults ∧
    (startWindowSet on b s).uplink = s.uplink ∧ (startWindowSet on b s).now = s.now ∧
    (startWindowSet on b s).pending = s.pending := by
  unfold startWindowSet
  (repeat' split) <;> simp

@[simp] theorem startWaiting_frame (s : State) :
    (startWaiting s).tracker = s.tracker ∧ (startWaiting s).bus = s.bus ∧ (startWaiting s).locks = s.locks ∧
    (startWaiting s).master = s.master ∧ (startWaiting s).events = s.events ∧ (startWaiting s).faults = s.faults ∧
    (startWaiting s).uplink = s.uplink ∧ (startWaiting s).now = s.now ∧ (startWaiting s).pending = s.pending := by
  unfold startWaiting
  split
  · split
    · split
      · next h =>
        obtain ⟨c, _, hc⟩ := Option.bind_eq_some_iff.mp h
        cases c <;> simp only [mapStart, reduceCtorEq, Option.some.injEq] at hc <;> subst hc <;> simp
      · simp
    · simp
  · simp

@[simp] theorem setEpisode_frame (e : Option Episode) (s : State) :
    (setEpisode e s).pageMap = s.pageMap ∧ (setEpisode e s).staging = s.staging ∧
    (setEpisode e s).tracker = s.tracker ∧ (setEpisode e s).bus = s.bus ∧ (setEpisode e s).master = s.master ∧
    (setEpisode e s).events = s.events ∧ (setEpisode e s).faults = s.faults ∧ (setEpisode e s).command = s.command ∧
    (setEpisode e s).uplink = s.uplink ∧ (setEpisode e s).now = s.now ∧ (setEpisode e s).freeIndex = s.freeIndex ∧
    (setEpisode e s).pending = s.pending := by
  simp [setEpisode]

@[simp] theorem toNone_frame (s : State) :
    (toNone s).tracker = s.tracker ∧ (toNone s).bus = s.bus ∧ (toNone s).master = s.master ∧
    (toNone s).events = s.events ∧ (toNone s).faults = s.faults ∧ (toNone s).uplink = s.uplink ∧
    (toNone s).now = s.now ∧ (toNone s).pending = s.pending := by
  simp [toNone]

@[simp] theorem joinEnd_frame (e : Episode) (s : State) :
    (joinEnd e s).bus = s.bus ∧ (joinEnd e s).master = s.master ∧ (joinEnd e s).events = s.events ∧
    (joinEnd e s).faults = s.faults ∧ (joinEnd e s).uplink = s.uplink ∧ (joinEnd e s).now = s.now ∧
    (joinEnd e s).pending = s.pending := by
  simp [joinEnd]

@[simp] theorem postEnd_frame (e : Episode) (s : State) :
    (postEnd e s).bus = s.bus ∧ (postEnd e s).master = s.master ∧ (postEnd e s).events = s.events ∧
    (postEnd e s).faults = s.faults ∧ (postEnd e s).uplink = s.uplink ∧ (postEnd e s).now = s.now ∧
    (postEnd e s).pending = s.pending := by
  unfold postEnd
  (repeat' split) <;> simp

@[simp] theorem lockReport_frame (slot : Slot) (s : State) :
    (lockReport slot s).bus = s.bus ∧ (lockReport slot s).master = s.master ∧ (lockReport slot s).events = s.events ∧
    (lockReport slot s).faults = s.faults ∧ (lockReport slot s).uplink = s.uplink ∧ (lockReport slot s).now = s.now ∧
    (lockReport slot s).pending = s.pending := by
  unfold lockReport
  (repeat' split) <;> simp

@[simp] theorem dropBus_frame (s : State) :
    (dropBus s).pageMap = s.pageMap ∧ (dropBus s).staging = s.staging ∧ (dropBus s).tracker = s.tracker ∧
    (dropBus s).locks = s.locks ∧ (dropBus s).master = s.master ∧ (dropBus s).events = s.events ∧
    (dropBus s).faults = s.faults ∧ (dropBus s).command = s.command ∧ (dropBus s).uplink = s.uplink ∧
    (dropBus s).now = s.now ∧ (dropBus s).freeIndex = s.freeIndex ∧ (dropBus s).pending = s.pending := by
  unfold dropBus
  (repeat' split) <;> simp

@[simp] theorem setEvent_frame (slot : Slot) (r : EventRecord) (s : State) :
    (setEvent slot r s).pageMap = s.pageMap ∧ (setEvent slot r s).staging = s.staging ∧
    (setEvent slot r s).tracker = s.tracker ∧ (setEvent slot r s).bus = s.bus ∧ (setEvent slot r s).locks = s.locks ∧
    (setEvent slot r s).master = s.master ∧ (setEvent slot r s).faults = s.faults ∧
    (setEvent slot r s).command = s.command ∧ (setEvent slot r s).uplink = s.uplink ∧
    (setEvent slot r s).now = s.now ∧ (setEvent slot r s).freeIndex = s.freeIndex ∧
    (setEvent slot r s).pending = s.pending := by
  simp [setEvent]

@[simp] theorem withdrawOffer_frame (slot : Slot) (s : State) :
    (withdrawOffer slot s).pageMap = s.pageMap ∧ (withdrawOffer slot s).staging = s.staging ∧
    (withdrawOffer slot s).tracker = s.tracker ∧ (withdrawOffer slot s).bus = s.bus ∧
    (withdrawOffer slot s).locks = s.locks ∧ (withdrawOffer slot s).master = s.master ∧
    (withdrawOffer slot s).faults = s.faults ∧ (withdrawOffer slot s).command = s.command ∧
    (withdrawOffer slot s).uplink = s.uplink ∧ (withdrawOffer slot s).now = s.now ∧
    (withdrawOffer slot s).freeIndex = s.freeIndex ∧ (withdrawOffer slot s).pending = s.pending := by
  simp [withdrawOffer]

@[simp] theorem offerEvent_frame (slot : Slot) (s : State) :
    (offerEvent slot s).pageMap = s.pageMap ∧ (offerEvent slot s).staging = s.staging ∧
    (offerEvent slot s).tracker = s.tracker ∧ (offerEvent slot s).bus = s.bus ∧ (offerEvent slot s).locks = s.locks ∧
    (offerEvent slot s).master = s.master ∧ (offerEvent slot s).faults = s.faults ∧
    (offerEvent slot s).command = s.command ∧ (offerEvent slot s).uplink = s.uplink ∧
    (offerEvent slot s).now = s.now ∧ (offerEvent slot s).freeIndex = s.freeIndex ∧
    (offerEvent slot s).pending = s.pending := by
  simp [offerEvent]

@[simp] theorem eventDrained_frame (slot : Slot) (s : State) :
    (eventDrained slot s).pageMap = s.pageMap ∧ (eventDrained slot s).staging = s.staging ∧
    (eventDrained slot s).tracker = s.tracker ∧ (eventDrained slot s).bus = s.bus ∧
    (eventDrained slot s).locks = s.locks ∧ (eventDrained slot s).master = s.master ∧
    (eventDrained slot s).faults = s.faults ∧ (eventDrained slot s).command = s.command ∧
    (eventDrained slot s).uplink = s.uplink ∧ (eventDrained slot s).now = s.now ∧
    (eventDrained slot s).freeIndex = s.freeIndex ∧ (eventDrained slot s).pending = s.pending := by
  unfold eventDrained
  (repeat' split) <;> simp

@[simp] theorem raiseEvent_frame (slot : Slot) (s : State) :
    (raiseEvent slot s).pageMap = s.pageMap ∧ (raiseEvent slot s).tracker = s.tracker ∧
    (raiseEvent slot s).bus = s.bus ∧ (raiseEvent slot s).locks = s.locks ∧ (raiseEvent slot s).master = s.master ∧
    (raiseEvent slot s).faults = s.faults ∧ (raiseEvent slot s).command = s.command ∧
    (raiseEvent slot s).uplink = s.uplink ∧ (raiseEvent slot s).now = s.now ∧
    (raiseEvent slot s).freeIndex = s.freeIndex ∧ (raiseEvent slot s).pending = s.pending := by
  unfold raiseEvent
  dsimp only
  (repeat' split) <;> simp

@[simp] theorem lookAtLine_frame (slot : Slot) (s : State) :
    (lookAtLine slot s).pageMap = s.pageMap ∧ (lookAtLine slot s).tracker = s.tracker ∧
    (lookAtLine slot s).bus = s.bus ∧ (lookAtLine slot s).locks = s.locks ∧ (lookAtLine slot s).master = s.master ∧
    (lookAtLine slot s).faults = s.faults ∧ (lookAtLine slot s).command = s.command ∧
    (lookAtLine slot s).uplink = s.uplink ∧ (lookAtLine slot s).now = s.now ∧
    (lookAtLine slot s).freeIndex = s.freeIndex ∧ (lookAtLine slot s).pending = s.pending := by
  unfold lookAtLine
  (repeat' split) <;> simp

@[simp] theorem withdrawEvent_frame (slot : Slot) (s : State) :
    (withdrawEvent slot s).pageMap = s.pageMap ∧ (withdrawEvent slot s).tracker = s.tracker ∧
    (withdrawEvent slot s).bus = s.bus ∧ (withdrawEvent slot s).locks = s.locks ∧
    (withdrawEvent slot s).master = s.master ∧ (withdrawEvent slot s).faults = s.faults ∧
    (withdrawEvent slot s).command = s.command ∧ (withdrawEvent slot s).uplink = s.uplink ∧
    (withdrawEvent slot s).now = s.now ∧ (withdrawEvent slot s).freeIndex = s.freeIndex ∧
    (withdrawEvent slot s).pending = s.pending := by
  unfold withdrawEvent
  (repeat' split) <;> simp

@[simp] theorem endEvent_frame (slot : Slot) (s : State) :
    (endEvent slot s).pageMap = s.pageMap ∧ (endEvent slot s).tracker = s.tracker ∧ (endEvent slot s).bus = s.bus ∧
    (endEvent slot s).locks = s.locks ∧ (endEvent slot s).master = s.master ∧ (endEvent slot s).faults = s.faults ∧
    (endEvent slot s).command = s.command ∧ (endEvent slot s).uplink = s.uplink ∧ (endEvent slot s).now = s.now ∧
    (endEvent slot s).freeIndex = s.freeIndex ∧ (endEvent slot s).pending = s.pending := by
  simp [endEvent]

@[simp] theorem acknowledge_frame (slot : Slot) (s : State) :
    (acknowledge slot s).pageMap = s.pageMap ∧ (acknowledge slot s).tracker = s.tracker ∧
    (acknowledge slot s).bus = s.bus ∧ (acknowledge slot s).locks = s.locks ∧ (acknowledge slot s).master = s.master ∧
    (acknowledge slot s).faults = s.faults ∧ (acknowledge slot s).command = s.command ∧
    (acknowledge slot s).uplink = s.uplink ∧ (acknowledge slot s).now = s.now ∧
    (acknowledge slot s).freeIndex = s.freeIndex ∧ (acknowledge slot s).pending = s.pending := by
  simp [acknowledge]

@[simp] theorem setAccess_frame (a : Option Downstream) (s : State) :
    (setAccess a s).pageMap = s.pageMap ∧ (setAccess a s).staging = s.staging ∧ (setAccess a s).tracker = s.tracker ∧
    (setAccess a s).bus = s.bus ∧ (setAccess a s).locks = s.locks ∧ (setAccess a s).events = s.events ∧
    (setAccess a s).faults = s.faults ∧ (setAccess a s).command = s.command ∧ (setAccess a s).uplink = s.uplink ∧
    (setAccess a s).now = s.now ∧ (setAccess a s).freeIndex = s.freeIndex ∧ (setAccess a s).pending = s.pending := by
  simp [setAccess]

@[simp] theorem presentAccess_frame (a : Downstream) (s : State) :
    (presentAccess a s).pageMap = s.pageMap ∧ (presentAccess a s).staging = s.staging ∧
    (presentAccess a s).tracker = s.tracker ∧ (presentAccess a s).locks = s.locks ∧
    (presentAccess a s).events = s.events ∧ (presentAccess a s).faults = s.faults ∧
    (presentAccess a s).command = s.command ∧ (presentAccess a s).uplink = s.uplink ∧
    (presentAccess a s).now = s.now ∧ (presentAccess a s).freeIndex = s.freeIndex ∧
    (presentAccess a s).pending = s.pending := by
  simp [presentAccess]

@[simp] theorem releaseMaster_frame (s : State) :
    (releaseMaster s).pageMap = s.pageMap ∧ (releaseMaster s).staging = s.staging ∧
    (releaseMaster s).tracker = s.tracker ∧ (releaseMaster s).locks = s.locks ∧ (releaseMaster s).master = s.master ∧
    (releaseMaster s).events = s.events ∧ (releaseMaster s).faults = s.faults ∧
    (releaseMaster s).command = s.command ∧ (releaseMaster s).uplink = s.uplink ∧ (releaseMaster s).now = s.now ∧
    (releaseMaster s).freeIndex = s.freeIndex ∧ (releaseMaster s).pending = s.pending := by
  unfold releaseMaster
  (repeat' split) <;> simp

@[simp] theorem drive_frame (r : Response) (d : List Byte) (s : State) :
    (drive r d s).pageMap = s.pageMap ∧ (drive r d s).staging = s.staging ∧ (drive r d s).tracker = s.tracker ∧
    (drive r d s).locks = s.locks ∧ (drive r d s).master = s.master ∧ (drive r d s).events = s.events ∧
    (drive r d s).faults = s.faults ∧ (drive r d s).command = s.command ∧ (drive r d s).uplink = s.uplink ∧
    (drive r d s).now = s.now ∧ (drive r d s).freeIndex = s.freeIndex ∧ (drive r d s).pending = s.pending := by
  simp [drive]

@[simp] theorem continueSlot_frame (s : State) :
    (continueSlot s).pageMap = s.pageMap ∧ (continueSlot s).staging = s.staging ∧
    (continueSlot s).tracker = s.tracker ∧ (continueSlot s).locks = s.locks ∧ (continueSlot s).master = s.master ∧
    (continueSlot s).events = s.events ∧ (continueSlot s).faults = s.faults ∧ (continueSlot s).command = s.command ∧
    (continueSlot s).uplink = s.uplink ∧ (continueSlot s).now = s.now ∧ (continueSlot s).freeIndex = s.freeIndex ∧
    (continueSlot s).pending = s.pending := by
  simp [continueSlot]

@[simp] theorem respond_frame (slot : Slot) (n k : Nat) (a : Answer) (s : State) :
    (respond slot n k a s).pageMap = s.pageMap ∧ (respond slot n k a s).staging = s.staging ∧
    (respond slot n k a s).tracker = s.tracker ∧ (respond slot n k a s).locks = s.locks ∧
    (respond slot n k a s).master = s.master ∧ (respond slot n k a s).events = s.events ∧
    (respond slot n k a s).faults = s.faults ∧ (respond slot n k a s).command = s.command ∧
    (respond slot n k a s).uplink = s.uplink ∧ (respond slot n k a s).now = s.now ∧
    (respond slot n k a s).freeIndex = s.freeIndex ∧ (respond slot n k a s).pending = s.pending := by
  unfold respond
  (repeat' split) <;> simp

@[simp] theorem grantSlot_frame (slot : Slot) (s : State) :
    (grantSlot slot s).pageMap = s.pageMap ∧ (grantSlot slot s).staging = s.staging ∧
    (grantSlot slot s).tracker = s.tracker ∧ (grantSlot slot s).locks = s.locks ∧
    (grantSlot slot s).master = s.master ∧ (grantSlot slot s).events = s.events ∧
    (grantSlot slot s).faults = s.faults ∧ (grantSlot slot s).command = s.command ∧
    (grantSlot slot s).uplink = s.uplink ∧ (grantSlot slot s).now = s.now ∧
    (grantSlot slot s).freeIndex = s.freeIndex ∧ (grantSlot slot s).pending = s.pending := by
  simp [grantSlot]

@[simp] theorem ownBus_frame (l : Bool) (s : State) :
    (ownBus l s).pageMap = s.pageMap ∧ (ownBus l s).staging = s.staging ∧ (ownBus l s).tracker = s.tracker ∧
    (ownBus l s).locks = s.locks ∧ (ownBus l s).master = s.master ∧ (ownBus l s).events = s.events ∧
    (ownBus l s).faults = s.faults ∧ (ownBus l s).command = s.command ∧ (ownBus l s).uplink = s.uplink ∧
    (ownBus l s).now = s.now ∧ (ownBus l s).freeIndex = s.freeIndex ∧ (ownBus l s).pending = s.pending := by
  simp [ownBus]

@[simp] theorem transmit_frame (f : UpFrame) (s : State) :
    (transmit f s).pageMap = s.pageMap ∧ (transmit f s).staging = s.staging ∧ (transmit f s).tracker = s.tracker ∧
    (transmit f s).bus = s.bus ∧ (transmit f s).locks = s.locks ∧ (transmit f s).master = s.master ∧
    (transmit f s).events = s.events ∧ (transmit f s).faults = s.faults ∧ (transmit f s).command = s.command ∧
    (transmit f s).now = s.now ∧ (transmit f s).freeIndex = s.freeIndex ∧ (transmit f s).pending = s.pending := by
  simp [transmit]

@[simp] theorem setClass_frame (c : TxClass) (s : State) :
    (setClass c s).pageMap = s.pageMap ∧ (setClass c s).staging = s.staging ∧ (setClass c s).tracker = s.tracker ∧
    (setClass c s).bus = s.bus ∧ (setClass c s).locks = s.locks ∧ (setClass c s).master = s.master ∧
    (setClass c s).events = s.events ∧ (setClass c s).faults = s.faults ∧ (setClass c s).command = s.command ∧
    (setClass c s).now = s.now ∧ (setClass c s).freeIndex = s.freeIndex ∧ (setClass c s).pending = s.pending := by
  simp [setClass]

@[simp] theorem setSource_frame (x : ReplySource) (s : State) :
    (setSource x s).pageMap = s.pageMap ∧ (setSource x s).staging = s.staging ∧ (setSource x s).tracker = s.tracker ∧
    (setSource x s).bus = s.bus ∧ (setSource x s).locks = s.locks ∧ (setSource x s).master = s.master ∧
    (setSource x s).events = s.events ∧ (setSource x s).faults = s.faults ∧ (setSource x s).command = s.command ∧
    (setSource x s).now = s.now ∧ (setSource x s).freeIndex = s.freeIndex ∧ (setSource x s).pending = s.pending := by
  simp [setSource]

@[simp] theorem progress_frame (k : Nat) (s : State) :
    (progress k s).pageMap = s.pageMap ∧ (progress k s).staging = s.staging ∧ (progress k s).tracker = s.tracker ∧
    (progress k s).bus = s.bus ∧ (progress k s).locks = s.locks ∧ (progress k s).master = s.master ∧
    (progress k s).events = s.events ∧ (progress k s).faults = s.faults ∧ (progress k s).command = s.command ∧
    (progress k s).now = s.now ∧ (progress k s).freeIndex = s.freeIndex ∧ (progress k s).pending = s.pending := by
  simp [progress]

@[simp] theorem applyAck_frame (n : SeqNo) (s : State) :
    (applyAck n s).pageMap = s.pageMap ∧ (applyAck n s).staging = s.staging ∧ (applyAck n s).tracker = s.tracker ∧
    (applyAck n s).bus = s.bus ∧ (applyAck n s).locks = s.locks ∧ (applyAck n s).master = s.master ∧
    (applyAck n s).events = s.events ∧ (applyAck n s).faults = s.faults ∧ (applyAck n s).command = s.command ∧
    (applyAck n s).now = s.now ∧ (applyAck n s).freeIndex = s.freeIndex ∧ (applyAck n s).pending = s.pending := by
  unfold applyAck
  (repeat' split) <;> simp

@[simp] theorem beginReplay_frame (s : State) :
    (beginReplay s).pageMap = s.pageMap ∧ (beginReplay s).staging = s.staging ∧ (beginReplay s).tracker = s.tracker ∧
    (beginReplay s).bus = s.bus ∧ (beginReplay s).locks = s.locks ∧ (beginReplay s).master = s.master ∧
    (beginReplay s).events = s.events ∧ (beginReplay s).faults = s.faults ∧ (beginReplay s).command = s.command ∧
    (beginReplay s).now = s.now ∧ (beginReplay s).freeIndex = s.freeIndex ∧ (beginReplay s).pending = s.pending := by
  simp [beginReplay]

@[simp] theorem gap_frame (s : State) :
    (gap s).pageMap = s.pageMap ∧ (gap s).staging = s.staging ∧ (gap s).tracker = s.tracker ∧ (gap s).bus = s.bus ∧
    (gap s).locks = s.locks ∧ (gap s).master = s.master ∧ (gap s).events = s.events ∧ (gap s).faults = s.faults ∧
    (gap s).command = s.command ∧ (gap s).now = s.now ∧ (gap s).freeIndex = s.freeIndex ∧
    (gap s).pending = s.pending := by
  unfold gap
  (repeat' split) <;> simp

@[simp] theorem malformedFrame_frame (s : State) :
    (malformedFrame s).pageMap = s.pageMap ∧ (malformedFrame s).staging = s.staging ∧
    (malformedFrame s).tracker = s.tracker ∧ (malformedFrame s).bus = s.bus ∧ (malformedFrame s).locks = s.locks ∧
    (malformedFrame s).master = s.master ∧ (malformedFrame s).events = s.events ∧
    (malformedFrame s).faults = s.faults ∧ (malformedFrame s).command = s.command ∧ (malformedFrame s).now = s.now ∧
    (malformedFrame s).freeIndex = s.freeIndex ∧ (malformedFrame s).pending = s.pending := by
  unfold malformedFrame
  (repeat' split) <;> simp

@[simp] theorem acceptFrame_frame (s : State) :
    (acceptFrame s).pageMap = s.pageMap ∧ (acceptFrame s).staging = s.staging ∧ (acceptFrame s).tracker = s.tracker ∧
    (acceptFrame s).bus = s.bus ∧ (acceptFrame s).locks = s.locks ∧ (acceptFrame s).master = s.master ∧
    (acceptFrame s).events = s.events ∧ (acceptFrame s).faults = s.faults ∧ (acceptFrame s).command = s.command ∧
    (acceptFrame s).now = s.now ∧ (acceptFrame s).freeIndex = s.freeIndex ∧ (acceptFrame s).pending = s.pending := by
  simp [acceptFrame]

@[simp] theorem makeAckDue_frame (s : State) :
    (makeAckDue s).pageMap = s.pageMap ∧ (makeAckDue s).staging = s.staging ∧ (makeAckDue s).tracker = s.tracker ∧
    (makeAckDue s).bus = s.bus ∧ (makeAckDue s).locks = s.locks ∧ (makeAckDue s).master = s.master ∧
    (makeAckDue s).events = s.events ∧ (makeAckDue s).faults = s.faults ∧ (makeAckDue s).command = s.command ∧
    (makeAckDue s).now = s.now ∧ (makeAckDue s).freeIndex = s.freeIndex ∧ (makeAckDue s).pending = s.pending := by
  simp [makeAckDue]

@[simp] theorem lossStaging_frame (s : State) :
    (lossStaging s).pageMap = s.pageMap ∧ (lossStaging s).tracker = s.tracker ∧ (lossStaging s).bus = s.bus ∧
    (lossStaging s).locks = s.locks ∧ (lossStaging s).master = s.master ∧ (lossStaging s).events = s.events ∧
    (lossStaging s).faults = s.faults ∧ (lossStaging s).command = s.command ∧ (lossStaging s).uplink = s.uplink ∧
    (lossStaging s).now = s.now ∧ (lossStaging s).pending = s.pending := by
  simp [lossStaging]

@[simp] theorem lossTracker_frame (s : State) :
    (lossTracker s).pageMap = s.pageMap ∧ (lossTracker s).staging = s.staging ∧ (lossTracker s).bus = s.bus ∧
    (lossTracker s).locks = s.locks ∧ (lossTracker s).master = s.master ∧ (lossTracker s).events = s.events ∧
    (lossTracker s).faults = s.faults ∧ (lossTracker s).command = s.command ∧ (lossTracker s).uplink = s.uplink ∧
    (lossTracker s).now = s.now ∧ (lossTracker s).freeIndex = s.freeIndex ∧ (lossTracker s).pending = s.pending := by
  simp [lossTracker]

@[simp] theorem lossLocks_frame (s : State) :
    (lossLocks s).pageMap = s.pageMap ∧ (lossLocks s).staging = s.staging ∧ (lossLocks s).tracker = s.tracker ∧
    (lossLocks s).bus = s.bus ∧ (lossLocks s).master = s.master ∧ (lossLocks s).events = s.events ∧
    (lossLocks s).faults = s.faults ∧ (lossLocks s).command = s.command ∧ (lossLocks s).uplink = s.uplink ∧
    (lossLocks s).now = s.now ∧ (lossLocks s).freeIndex = s.freeIndex ∧ (lossLocks s).pending = s.pending := by
  unfold lossLocks
  (repeat' split) <;> simp

@[simp] theorem lossMaster_frame (s : State) :
    (lossMaster s).pageMap = s.pageMap ∧ (lossMaster s).staging = s.staging ∧ (lossMaster s).tracker = s.tracker ∧
    (lossMaster s).locks = s.locks ∧ (lossMaster s).events = s.events ∧ (lossMaster s).faults = s.faults ∧
    (lossMaster s).command = s.command ∧ (lossMaster s).uplink = s.uplink ∧ (lossMaster s).now = s.now ∧
    (lossMaster s).freeIndex = s.freeIndex ∧ (lossMaster s).pending = s.pending := by
  unfold lossMaster
  (repeat' split) <;> simp

@[simp] theorem lossEvents_frame (s : State) :
    (lossEvents s).pageMap = s.pageMap ∧ (lossEvents s).staging = s.staging ∧ (lossEvents s).tracker = s.tracker ∧
    (lossEvents s).bus = s.bus ∧ (lossEvents s).locks = s.locks ∧ (lossEvents s).master = s.master ∧
    (lossEvents s).faults = s.faults ∧ (lossEvents s).command = s.command ∧ (lossEvents s).uplink = s.uplink ∧
    (lossEvents s).now = s.now ∧ (lossEvents s).freeIndex = s.freeIndex ∧ (lossEvents s).pending = s.pending := by
  simp [lossEvents]

@[simp] theorem lossCommand_frame (s : State) :
    (lossCommand s).pageMap = s.pageMap ∧ (lossCommand s).staging = s.staging ∧ (lossCommand s).tracker = s.tracker ∧
    (lossCommand s).bus = s.bus ∧ (lossCommand s).locks = s.locks ∧ (lossCommand s).master = s.master ∧
    (lossCommand s).events = s.events ∧ (lossCommand s).faults = s.faults ∧ (lossCommand s).uplink = s.uplink ∧
    (lossCommand s).now = s.now ∧ (lossCommand s).freeIndex = s.freeIndex ∧ (lossCommand s).pending = s.pending := by
  simp [lossCommand]

@[simp] theorem lossUplink_frame (a b : Bool) (s : State) :
    (lossUplink a b s).pageMap = s.pageMap ∧ (lossUplink a b s).staging = s.staging ∧
    (lossUplink a b s).tracker = s.tracker ∧ (lossUplink a b s).bus = s.bus ∧ (lossUplink a b s).locks = s.locks ∧
    (lossUplink a b s).master = s.master ∧ (lossUplink a b s).events = s.events ∧
    (lossUplink a b s).faults = s.faults ∧ (lossUplink a b s).command = s.command ∧ (lossUplink a b s).now = s.now ∧
    (lossUplink a b s).freeIndex = s.freeIndex ∧ (lossUplink a b s).pending = s.pending := by
  unfold lossUplink
  (repeat' split) <;> simp

@[simp] theorem linkLoss_frame (a b : Bool) (s : State) :
    (linkLoss a b s).pageMap = s.pageMap ∧ (linkLoss a b s).now = s.now ∧ (linkLoss a b s).pending = s.pending := by
  simp [linkLoss]

@[simp] theorem enterDown_frame (s : State) :
    (enterDown s).pageMap = s.pageMap ∧ (enterDown s).staging = s.staging ∧ (enterDown s).tracker = s.tracker ∧
    (enterDown s).bus = s.bus ∧ (enterDown s).locks = s.locks ∧ (enterDown s).master = s.master ∧
    (enterDown s).events = s.events ∧ (enterDown s).faults = s.faults ∧ (enterDown s).command = s.command ∧
    (enterDown s).now = s.now ∧ (enterDown s).freeIndex = s.freeIndex ∧ (enterDown s).pending = s.pending := by
  simp [enterDown]

@[simp] theorem enterTraining_frame (s : State) :
    (enterTraining s).pageMap = s.pageMap ∧ (enterTraining s).staging = s.staging ∧
    (enterTraining s).tracker = s.tracker ∧ (enterTraining s).bus = s.bus ∧ (enterTraining s).locks = s.locks ∧
    (enterTraining s).master = s.master ∧ (enterTraining s).events = s.events ∧ (enterTraining s).faults = s.faults ∧
    (enterTraining s).command = s.command ∧ (enterTraining s).now = s.now ∧
    (enterTraining s).freeIndex = s.freeIndex ∧ (enterTraining s).pending = s.pending := by
  simp [enterTraining]

@[simp] theorem askBegin_frame (e : Episode) (s : State) :
    (askBegin e s).pageMap = s.pageMap ∧ (askBegin e s).staging = s.staging ∧ (askBegin e s).bus = s.bus ∧
    (askBegin e s).master = s.master ∧ (askBegin e s).events = s.events ∧ (askBegin e s).faults = s.faults ∧
    (askBegin e s).command = s.command ∧ (askBegin e s).uplink = s.uplink ∧ (askBegin e s).now = s.now ∧
    (askBegin e s).freeIndex = s.freeIndex ∧ (askBegin e s).pending = s.pending := by
  unfold askBegin
  split
  · next h =>
    have := allocateTag_frame h
    simp [this]
  · simp

@[simp] theorem episodeDrained_frame (slot : Slot) (s : State) :
    (episodeDrained slot s).pageMap = s.pageMap ∧ (episodeDrained slot s).staging = s.staging ∧
    (episodeDrained slot s).bus = s.bus ∧ (episodeDrained slot s).master = s.master ∧
    (episodeDrained slot s).events = s.events ∧ (episodeDrained slot s).faults = s.faults ∧
    (episodeDrained slot s).command = s.command ∧ (episodeDrained slot s).uplink = s.uplink ∧
    (episodeDrained slot s).now = s.now ∧ (episodeDrained slot s).freeIndex = s.freeIndex ∧
    (episodeDrained slot s).pending = s.pending := by
  unfold episodeDrained
  (repeat' split) <;> simp

@[simp] theorem bindFetch_frame (i : LineIx) (b : Binding) (f : FetchSpan) (r : Option Nat) (s : State) :
    (bindFetch i b f r s).pageMap = s.pageMap ∧ (bindFetch i b f r s).bus = s.bus ∧
    (bindFetch i b f r s).locks = s.locks ∧ (bindFetch i b f r s).master = s.master ∧
    (bindFetch i b f r s).events = s.events ∧ (bindFetch i b f r s).faults = s.faults ∧
    (bindFetch i b f r s).command = s.command ∧ (bindFetch i b f r s).uplink = s.uplink ∧
    (bindFetch i b f r s).now = s.now ∧ (bindFetch i b f r s).freeIndex = s.freeIndex ∧
    (bindFetch i b f r s).pending = s.pending := by
  unfold bindFetch
  split
  · next h =>
    have := allocateTag_frame h
    simp [this]
  · simp

@[simp] theorem beginEpisode_frame (t : Translation) (s : State) :
    (beginEpisode t s).pageMap = s.pageMap ∧ (beginEpisode t s).bus = s.bus ∧ (beginEpisode t s).master = s.master ∧
    (beginEpisode t s).events = s.events ∧ (beginEpisode t s).faults = s.faults ∧
    (beginEpisode t s).command = s.command ∧ (beginEpisode t s).uplink = s.uplink ∧ (beginEpisode t s).now = s.now ∧
    (beginEpisode t s).freeIndex = s.freeIndex ∧ (beginEpisode t s).pending = s.pending := by
  unfold beginEpisode
  dsimp only
  (repeat' split) <;> simp

@[simp] theorem heldResult_frame (t : TagRef) (r : FetchResult) (s : State) :
    (heldResult t r s).bus = s.bus ∧ (heldResult t r s).master = s.master ∧ (heldResult t r s).events = s.events ∧
    (heldResult t r s).faults = s.faults ∧ (heldResult t r s).uplink = s.uplink ∧ (heldResult t r s).now = s.now ∧
    (heldResult t r s).pending = s.pending := by
  unfold heldResult
  (repeat' split) <;> simp

@[simp] theorem beginResult_frame (t : TagRef) (r : FetchResult) (s : State) :
    (beginResult t r s).master = s.master ∧ (beginResult t r s).events = s.events ∧
    (beginResult t r s).uplink = s.uplink ∧ (beginResult t r s).now = s.now ∧
    (beginResult t r s).pending = s.pending := by
  unfold beginResult
  (repeat' split) <;> simp

@[simp] theorem handOver_frame (r : Request) (t : TagRef) (x : FetchResult) (s : State) :
    (handOver r t x s).master = s.master ∧ (handOver r t x s).events = s.events ∧
    (handOver r t x s).uplink = s.uplink ∧ (handOver r t x s).now = s.now ∧
    (handOver r t x s).pending = s.pending := by
  unfold handOver
  (repeat' split) <;> simp

@[simp] theorem requestFault_frame (r : Request) (t : TagRef) (x : FetchResult) (s : State) :
    (requestFault r t x s).pageMap = s.pageMap ∧ (requestFault r t x s).tracker = s.tracker ∧
    (requestFault r t x s).locks = s.locks ∧ (requestFault r t x s).master = s.master ∧
    (requestFault r t x s).events = s.events ∧ (requestFault r t x s).command = s.command ∧
    (requestFault r t x s).uplink = s.uplink ∧ (requestFault r t x s).now = s.now ∧
    (requestFault r t x s).freeIndex = s.freeIndex ∧ (requestFault r t x s).pending = s.pending := by
  unfold requestFault
  (repeat' split) <;> simp

@[simp] theorem finishRequest_frame (i : TagIx) (r : Request) (x : FetchResult) (s : State) :
    (finishRequest i r x s).master = s.master ∧ (finishRequest i r x s).events = s.events ∧
    (finishRequest i r x s).uplink = s.uplink ∧ (finishRequest i r x s).now = s.now ∧
    (finishRequest i r x s).pending = s.pending := by
  simp [finishRequest]

@[simp] theorem enqueue_frame (f : CommandFrame) (h : Bool) (s : State) :
    (enqueue f h s).pageMap = s.pageMap ∧ (enqueue f h s).staging = s.staging ∧ (enqueue f h s).tracker = s.tracker ∧
    (enqueue f h s).bus = s.bus ∧ (enqueue f h s).locks = s.locks ∧ (enqueue f h s).master = s.master ∧
    (enqueue f h s).events = s.events ∧ (enqueue f h s).faults = s.faults ∧ (enqueue f h s).uplink = s.uplink ∧
    (enqueue f h s).now = s.now ∧ (enqueue f h s).freeIndex = s.freeIndex ∧ (enqueue f h s).pending = s.pending := by
  simp [enqueue]

@[simp] theorem answerArrival_frame (f : CommandFrame) (c : ResultCode) (b : List Byte) (s : State) :
    (answerArrival f c b s).pageMap = s.pageMap ∧ (answerArrival f c b s).staging = s.staging ∧
    (answerArrival f c b s).tracker = s.tracker ∧ (answerArrival f c b s).bus = s.bus ∧
    (answerArrival f c b s).locks = s.locks ∧ (answerArrival f c b s).master = s.master ∧
    (answerArrival f c b s).events = s.events ∧ (answerArrival f c b s).faults = s.faults ∧
    (answerArrival f c b s).now = s.now ∧ (answerArrival f c b s).pending = s.pending := by
  simp [answerArrival]

end Sys2Proof.Machine
end

