-- ==== Sys2Proof/Laws/Table.lean ====
section
/-! SUPPORT. What reading a table gives after each way of making or changing one. -/

namespace Sys2Proof.Table

variable {α β : Type} {n : Nat}

@[ext] theorem ext_get {t u : Table α n} (h : ∀ i, t.get i = u.get i) : t = u := by
  obtain ⟨xs, hx⟩ := t
  obtain ⟨ys, hy⟩ := u
  congr 1
  apply List.ext_get (by omega)
  intro k hk _
  exact h ⟨k, by omega⟩

@[simp] theorem get_set_self (t : Table α n) (i : Fin n) (x : α) : (t.set i x).get i = x := by
  show (t.items.set i.val x)[i.val]'_ = x
  exact List.getElem_set_self _

@[simp] theorem get_set_ne (t : Table α n) {i j : Fin n} (x : α) (h : i ≠ j) : (t.set i x).get j = t.get j := by
  show (t.items.set i.val x)[j.val]'_ = t.items[j.val]'_
  exact List.getElem_set_ne (fun e => h (Fin.ext e)) _

theorem get_set (t : Table α n) (i j : Fin n) (x : α) : (t.set i x).get j = if i = j then x else t.get j := by
  by_cases h : i = j
  · subst h; simp
  · simp [h]

@[simp] theorem get_fill (x : α) (i : Fin n) : (fill n x).get i = x := by
  show (List.replicate n x)[i.val]'_ = x
  exact List.getElem_replicate _

@[simp] theorem get_map (f : α → β) (t : Table α n) (i : Fin n) : (t.map f).get i = f (t.get i) := by
  show (t.items.map f)[i.val]'_ = f (t.items[i.val]'_)
  exact List.getElem_map _

theorem getElem_mapFrom (f : Nat → α → β) (k : Nat) (xs : List α) (i : Nat) (h : i < xs.length)
    (h' : i < (mapFrom f k xs).length) : (mapFrom f k xs)[i] = f (k + i) xs[i] := by
  induction xs generalizing k i with
  | nil => simp at h
  | cons x xs ih =>
    cases i with
    | zero => simp [mapFrom]
    | succ i =>
      simp only [mapFrom, List.getElem_cons_succ]
      rw [ih (k + 1) i (by simpa using h)]
      congr 1
      omega

@[simp] theorem get_mapIx (f : Nat → α → β) (t : Table α n) (i : Fin n) : (t.mapIx f).get i = f i.val (t.get i) := by
  have h : i.val < t.items.length := by rw [t.size]; exact i.isLt
  have h' : i.val < (mapFrom f 0 t.items).length := by rw [mapFrom_length]; exact h
  have e := getElem_mapFrom f 0 t.items i.val h h'
  rw [Nat.zero_add] at e
  exact e

@[simp] theorem get_build (f : Nat → α) (i : Fin n) : (build n f).get i = f i.val := by
  have h : i.val < ((List.range n).map f).length := by simp
  have e : ((List.range n).map f)[i.val] = f i.val := by simp
  exact e

@[simp] theorem set_get_self (t : Table α n) (i : Fin n) : t.set i (t.get i) = t := by
  apply ext_get
  intro j
  rw [get_set]
  split
  · next h => rw [h]
  · rfl

theorem mem_items {t : Table α n} {x : α} : x ∈ t.items ↔ ∃ i, t.get i = x := by
  constructor
  · intro h
    obtain ⟨k, hk, rfl⟩ := List.getElem_of_mem h
    exact ⟨⟨k, by have := t.size; omega⟩, by simp [get]⟩
  · rintro ⟨i, rfl⟩
    exact List.get_mem ..

end Sys2Proof.Table
end

