-- ==== Sys2Proof/Laws/Ops.lean ====
section
/-! SUPPORT. What each shared operation does, said once: free orders, the counters, admission of faults, retirement and
allocation of tags, the posted-write queue, the start of ordered commands and the link loss. -/

namespace Sys2Proof.Machine

/-! ### Lists and counters -/

theorem freeOrder_perm {α : Type} (k : Nat) (l : List α) : (freeOrder k l).Perm l := by
  induction l generalizing k with
  | nil => exact List.Perm.refl _
  | cons x xs ih =>
    cases xs with
    | nil => exact List.Perm.refl _
    | cons y rest =>
      have h := ih (k + 1)
      rw [freeOrder]
      refine (List.perm_insertIdx x _ ?_).trans (List.Perm.cons x h)
      rw [h.length_eq, List.length_cons]
      have : Config.freeChoice k % (rest.length + 2) < rest.length + 2 := Nat.mod_lt _ (by omega)
      omega

@[simp] theorem mem_freeOrder {α : Type} (k : Nat) (l : List α) (x : α) : x ∈ freeOrder k l ↔ x ∈ l :=
  (freeOrder_perm k l).mem_iff

theorem mem_allLines (i : LineIx) : i ∈ allLines := by revert i; decide

theorem mem_allTags (i : TagIx) : i ∈ allTags := by revert i; decide

theorem mem_allSlots (s : Slot) : s ∈ allSlots := by revert s; decide

/-! ### Lines -/

theorem lineAt_setLine (i j : LineIx) (l : Line) (s : State) :
    lineAt j (setLine i l s) = if i = j then l else lineAt j s := by
  simp [lineAt, setLine, Table.get_set]

theorem lineAt_freeReads (p : Line → Bool) (i : LineIx) (s : State) :
    lineAt i (freeReads p s) = if p (lineAt i s) then (lineAt i s).freed else lineAt i s := by
  simp only [lineAt, freeReads, State.setStaging_staging, Table.get_map]
  rfl

/-- Closing changes the one line, and only if it is GATHERING. -/
theorem lineAt_closeLine (i j : LineIx) (s : State) :
    lineAt j (closeLine s i) =
      if i = j then (match lineAt i s with | .gathering b d v _ => .closed b d v | l => l) else lineAt j s := by
  unfold closeLine
  cases h : lineAt i s with
  | gathering b d v t => simp only [lineAt, State.setStaging_staging, Table.get_set]
  | _ =>
    simp only
    split
    · next e => rw [← e, h]
    · rfl

theorem findLine_some {p : Line → Bool} {i : LineIx} {s : State} (h : findLine p s = some i) : p (lineAt i s) = true := by
  unfold findLine at h
  have := List.find?_some (p := fun i => p (lineAt i s)) h
  exact this

theorem findLine_none {p : Line → Bool} {s : State} (h : findLine p s = none) (i : LineIx) : p (lineAt i s) = false := by
  unfold findLine at h
  simpa using List.find?_eq_none.mp h i (mem_allLines i)

/-- Freeing is what the statements call giving up (R38). -/
theorem freeReads_eq_gaveUp (p : Line → Bool) (s : State) : freeReads p s = gaveUp p s := rfl

/-- The line that a miss takes, and the state after any reclaim (R25 steps 2 to 4). -/
theorem takesLine_of {slot : Slot} {u room v : State} {i : LineIx} (h1 : makeQuota slot u = some room)
    (h2 : takeLine room = some (i, v)) : TakesLine slot i u v := by
  have free : ∀ j (s : State), setLine j .free s = reclaimed j s := by
    intro j s
    simp [setLine, reclaimed, Line.reclaimable]
  unfold makeQuota at h1
  unfold TakesLine
  split at h1
  · next hc =>
    cases h1
    unfold takeLine at h2
    split at h2
    · next hf =>
      cases h2
      exact .inl ⟨hc, hf, rfl⟩
    · next hf =>
      split at h2
      · next j rest hl =>
        cases h2
        exact .inr (.inl ⟨hc, hf, ⟨rest, hl⟩, free _ _⟩)
      · cases h2
  · next hc =>
    split at h1
    · next j hj =>
      cases h1
      have ne : findLine Line.isFree (setLine j .free u) ≠ none := by
        intro hn
        have := findLine_none hn j
        simp [lineAt_setLine, Line.isFree] at this
      unfold takeLine at h2
      split at h2
      · next hf =>
        cases h2
        rw [free] at hf ⊢
        exact .inr (.inr ⟨by omega, j, hj, rfl, hf⟩)
      · next hf => exact absurd hf ne
    · cases h1

/-! ### Claims of cards -/

/-- The cards that may claim a transaction presented now (R74, R123). -/
theorem mem_claimants (space : Space) (selected : Option Slot) (x : Slot) (s : State) :
    x ∈ claimants space selected s ↔ eligible x s = true ∧ (space = .identity → selected = some x) := by
  have h := mem_allSlots x
  cases space <;> simp [claimants, h]

theorem mayBeClaimed_iff (s : State) : mayBeClaimed s = true ↔ s.bus.claimants ≠ [] := by
  cases h : s.bus.claimants <;> simp [mayBeClaimed, h]

/-- A card that may claim and is not the slot's stays able to, and the slot's own card claims nothing more (R74). -/
theorem mem_claimants_holdInReset (slot x : Slot) (r : SlotRecord) (s : State) :
    x ∈ (holdInReset slot r s).bus.claimants ↔ x ∈ s.bus.claimants ∧ x ≠ slot := by
  simp [holdInReset]

/-! ### Faults -/

/-- A fault that finds room is admitted with the next FaultSeq, the autofence's decision and the dropped count (R142). -/
theorem takeFault_queue (r : FaultReport) (s : State) (h : s.faults.queue.length < 16) :
    (takeFault r s).faults.queue = s.faults.queue ++
        [{ seq := s.faults.nextSeq, report := r, fenced := autofences r s, lostBefore := s.faults.dropped }] ∧
      (takeFault r s).faults.dropped = 0 ∧ (takeFault r s).faults.nextSeq = s.faults.nextSeq + 1 := by
  have hb : autofences r (markSummary r s) = autofences r s := by simp [autofences]
  have hm : (markSummary r s).faults.queue = s.faults.queue ∧ (markSummary r s).faults.dropped = s.faults.dropped ∧
      (markSummary r s).faults.nextSeq = s.faults.nextSeq := by
    unfold markSummary; split <;> simp
  simp [takeFault, admitFault, hb, hm, h, Config.faultPlaces]

/-- A fault that finds the queue full is dropped and counted (R142, R144). -/
theorem takeFault_full (r : FaultReport) (s : State) (h : 16 ≤ s.faults.queue.length) :
    (takeFault r s).faults.queue = s.faults.queue ∧ (takeFault r s).faults.dropped = satInc s.faults.dropped ∧
      (takeFault r s).faults.nextSeq = s.faults.nextSeq := by
  have hm : (markSummary r s).faults.queue = s.faults.queue ∧ (markSummary r s).faults.dropped = s.faults.dropped ∧
      (markSummary r s).faults.nextSeq = s.faults.nextSeq := by
    unfold markSummary; split <;> simp
  have hn : ¬ s.faults.queue.length < 16 := by omega
  simp [takeFault, admitFault, hm, hn, Config.faultPlaces]

/-- A kind that carries no slot touches neither slot records nor lines nor summaries. -/
theorem takeFault_no_slot (r : FaultReport) (s : State) (h : r.slot = none) :
    (takeFault r s).bus = s.bus ∧ (takeFault r s).staging = s.staging ∧
      (takeFault r s).faults.summaries = s.faults.summaries := by
  simp only [takeFault, markSummary, applyAutofence, h, admitFault]
  split <;> simp

/-! ### Tags and posted entries -/

theorem lowestFreeTag_some {i : TagIx} {s : State} (h : lowestFreeTag s = some i) :
    (s.tracker.tags.get i).state = .free := by
  have := List.find?_some h
  simpa using this

/-- What an allocation does to the tracker (R50). -/
theorem allocateTag_tracker {r : Request} {s t : State} {tag : TagRef} (h : allocateTag r s = some (tag, t)) :
    (s.tracker.tags.get tag.index).state = .free ∧ tag.generation = (s.tracker.tags.get tag.index).generation ∧
      t.tracker =
        { s.tracker with
          tags := s.tracker.tags.set tag.index ⟨.waiting r, tag.generation⟩
          requestQueue := s.tracker.requestQueue ++ [tag.index] } := by
  unfold allocateTag at h
  split at h
  · simp at h
  · next i hi =>
    simp only [Option.some.injEq, Prod.mk.injEq] at h
    obtain ⟨rfl, rfl⟩ := h
    exact ⟨lowestFreeTag_some hi, rfl, rfl⟩

/-- What a join does to the tracker (R63, R64, R67). -/
theorem joinPosted_tracker (slot : Slot) (k : PostedKind) (a : HostAddr) (l : Bool) (s : State) :
    (joinPosted slot k a l s).tracker =
      { s.tracker with
        posted := s.tracker.posted ++ [⟨slot, k, a, l, s.tracker.nextPosted⟩]
        nextPosted := s.tracker.nextPosted + 1
        writeHold := s.tracker.writeHold || decide (s.tracker.holdHigh ≤ s.tracker.posted.length + 1) } := by
  simp [joinPosted, holdOnJoin]

/-! ### Ordered commands -/

/-- A command at the head starts under the conditions of R158. -/
theorem runHead_of_heads {s : State} {e : CommandEntry} {rest : List CommandEntry} {c : Command}
    {start : Command → Option (State → State)} {f : State → State} (h : Heads s e rest c) (hf : start c = some f) :
    runHead start s = f (beginHead e rest s) := by
  obtain ⟨hq, hp, he, hr, hl, ha, hh⟩ := h
  have ready : readyToStart s = true := by
    simp only [readyToStart, he, hr, ha, Option.isNone_none, Bool.not_false, Bool.true_and, Bool.and_true,
      Bool.and_eq_true, decide_eq_true_eq, List.all_eq_true]
    exact ⟨hl, fun x hx => by simp [hh x hx]⟩
  simp [runHead, hq, ready, hp, hf]

/-- What the start of a command does: the entry becomes the executing command and its credit is returned (R158, R154). -/
theorem beginHead_spec (e : CommandEntry) (rest : List CommandEntry) (s : State) :
    (beginHead e rest s).command =
        { s.command with
          queue := rest
          executing := some { tag := e.tag, code := e.code, args := e.args, wait := .none } } ∧
      CreditReturned s (beginHead e rest s) := by
  constructor
  · simp [beginHead]
  · unfold beginHead returnCredit CreditReturned
    split
    · exact ⟨⟨_, rfl⟩, fun _ => rfl⟩
    · next h => exact ⟨⟨_, rfl⟩, fun h' => absurd h' h⟩

@[simp] theorem beginHead_frame (e : CommandEntry) (rest : List CommandEntry) (s : State) :
    (beginHead e rest s).pageMap = s.pageMap ∧ (beginHead e rest s).staging = s.staging ∧
    (beginHead e rest s).tracker = s.tracker ∧ (beginHead e rest s).bus = s.bus ∧
    (beginHead e rest s).locks = s.locks ∧ (beginHead e rest s).master = s.master ∧
    (beginHead e rest s).events = s.events ∧ (beginHead e rest s).faults = s.faults ∧
    (beginHead e rest s).now = s.now ∧ (beginHead e rest s).pending = s.pending := by
  simp [beginHead]

@[simp] theorem returnCredit_linkState (s : State) : (returnCredit s).uplink.linkState = s.uplink.linkState := by
  unfold returnCredit
  split <;> rfl

@[simp] theorem beginHead_linkState (e : CommandEntry) (rest : List CommandEntry) (s : State) :
    (beginHead e rest s).uplink.linkState = s.uplink.linkState := by
  rw [beginHead, returnCredit_linkState]
  rfl

/-! ### The transmitter and the replay buffer -/

/-- A Seq outside the replay buffer acknowledges nothing (R176). -/
theorem acknowledged_outside {u : Uplink} {n : SeqNo} (h : u.replay.length ≤ (n - oldest u).toNat) :
    acknowledged u n = 0 := by
  rw [acknowledged, if_neg (Nat.not_lt.mpr h)]

/-- The last Seq acknowledged lies outside the replay buffer (R175, R176). -/
theorem lastAcknowledged_outside {u : Uplink} {n : SeqNo} (h : n + 1 = oldest u) (hl : u.replay.length ≤ 16) :
    u.replay.length ≤ (n - oldest u).toNat := by
  have all : ∀ m : SeqNo, m - (m + 1) = 63 := by decide +kernel
  rw [← h, all n]
  exact Nat.le_trans hl (by decide)

/-- A class is ready as the statements say it (R180). -/
theorem classReady_iff (s : State) (c : TxClass) : classReady s c = true ↔ Ready s c := by
  cases c <;> simp [classReady, Ready, Nat.one_le_iff_ne_zero, ← BitVec.toNat_inj]

/-- The classes tested before one are those before it in the arbiter's order (R180). -/
theorem find_chosen {s : State} {c : TxClass} (hr : Ready s c)
    (hb : ∀ x, testedBefore s x < testedBefore s c → ¬ Ready s x) :
    (classesAfter s.uplink.classPointer).find? (classReady s) = some c := by
  have before : ∀ x, testedBefore s x < testedBefore s c → classReady s x = false := fun x hx =>
    Bool.eq_false_iff.mpr fun h => hb x hx ((classReady_iff s x).mp h)
  have ready := (classReady_iff s c).mpr hr
  have b1 := before .reply
  have b2 := before .fault
  have b3 := before .posted
  have b4 := before .request
  cases hp : s.uplink.classPointer <;> cases c <;>
    simp_all [testedBefore, rotationPlace, classesAfter, List.find?]

/-- Where the statements say that row 3 serves a class, the transmitter serves it (R180). -/
theorem transmitNext_chosen {s : State} {c : TxClass} (h : Chosen c s) : transmitNext s = serveClass c s := by
  obtain ⟨⟨⟨h1, h2, h3, h4, h5, h6⟩, h7, h8⟩, hr, hb⟩ := h
  have hc : creditDue s = false := by simp [creditDue, h5]
  have hl : (linkUp s && decide (s.uplink.replay.length < Config.replayPlaces)) = true := by
    simp [linkUp, h7, Config.replayPlaces, h8]
  simp only [transmitNext, h1, h2, h3, h4, hc, h6, serveNew, hl, find_chosen hr hb, Bool.false_eq_true, if_false, if_true]

end Sys2Proof.Machine
end

