-- ==== Sys2Proof/Laws/Lines.lean ====
section
/-! SUPPORT. What closing, freeing, fences, drains, events and faults do, in the words of Safety. -/

namespace Sys2Proof.Machine

/-! ### Closing -/

theorem isGathering_iff {l : Line} : l.isGathering = true ↔ ∃ b d v t, l = .gathering b d v t := by
  cases l <;> simp [Line.isGathering]

theorem shut_of_not {p : Binding → Bool} {l : Line} (h : (l.isGathering && l.binding.any p) = false) : shut p l = l := by
  cases l <;> simp_all [Line.isGathering, Line.binding, shut]

theorem shut_of_true {p : Binding → Bool} {l : Line} (h : (l.isGathering && l.binding.any p) = true) :
    shut p l = shut (fun _ => true) l := by
  cases l <;> simp_all [Line.isGathering, Line.binding, shut]

/-- Closing of distinct GATHERING lines closes those lines and appends them in their order (R36). -/
theorem foldl_closeLine (order : List LineIx) (s : State) (hn : order.Nodup)
    (hg : ∀ i ∈ order, (lineAt i s).isGathering = true) :
    (∀ j, lineAt j (order.foldl closeLine s) = if j ∈ order then shut (fun _ => true) (lineAt j s) else lineAt j s) ∧
      (order.foldl closeLine s).staging.closedOrder = s.staging.closedOrder ++ order ∧
      (order.foldl closeLine s).staging.lru = s.staging.lru := by
  induction order generalizing s with
  | nil => simp
  | cons i rest ih =>
    obtain ⟨b, d, v, t, hi⟩ := isGathering_iff.mp (hg i (by simp))
    have hnd := List.nodup_cons.mp hn
    have step : ∀ j, lineAt j (closeLine s i) = if i = j then .closed b d v else lineAt j s := by
      intro j
      rw [lineAt_closeLine, hi]
    have hc : (closeLine s i).staging.closedOrder = s.staging.closedOrder ++ [i] ∧
        (closeLine s i).staging.lru = s.staging.lru := by
      simp [closeLine, hi]
    have h := ih (closeLine s i) hnd.2 (fun j hj => by
      have : i ≠ j := fun e => hnd.1 (e ▸ hj)
      rw [step, if_neg this]
      exact hg j (by simp [hj]))
    refine ⟨fun j => ?_, ?_, ?_⟩
    · rw [List.foldl_cons, h.1, step]
      by_cases e : i = j
      · subst e
        simp [hnd.1, hi, shut]
      · have e' : ¬ j = i := fun x => e x.symm
        simp [e, e']
    · rw [List.foldl_cons, h.2.1, hc.1]
      simp
    · rw [List.foldl_cons, h.2.2, hc.2]

/-- Closing touches the lines and the closed-order list alone. -/
theorem foldl_closeLine_rest (order : List LineIx) (s : State) :
    (order.foldl closeLine s).staging =
      { s.staging with
        lines := (order.foldl closeLine s).staging.lines
        closedOrder := (order.foldl closeLine s).staging.closedOrder } := by
  induction order generalizing s with
  | nil => rfl
  | cons i rest ih =>
    rw [List.foldl_cons, ih]
    unfold closeLine
    split <;> rfl

@[simp] theorem closeGathering_rest (slot : Slot) (s : State) :
    (closeGathering slot s).staging.buffering = s.staging.buffering ∧
    (closeGathering slot s).staging.readAhead = s.staging.readAhead ∧
    (closeGathering slot s).staging.gatherIdle = s.staging.gatherIdle ∧
    (closeGathering slot s).staging.slotDrains = s.staging.slotDrains ∧
    (closeGathering slot s).staging.globalDrain = s.staging.globalDrain ∧
    (closeGathering slot s).staging.mapBarrier = s.staging.mapBarrier := by
  rw [closeGathering, foldl_closeLine_rest]
  exact ⟨rfl, rfl, rfl, rfl, rfl, rfl⟩

@[simp] theorem closeWhere_rest (p : Binding → Bool) (s : State) :
    (closeWhere p s).staging.buffering = s.staging.buffering ∧
    (closeWhere p s).staging.readAhead = s.staging.readAhead ∧
    (closeWhere p s).staging.gatherIdle = s.staging.gatherIdle ∧
    (closeWhere p s).staging.slotDrains = s.staging.slotDrains ∧
    (closeWhere p s).staging.globalDrain = s.staging.globalDrain ∧
    (closeWhere p s).staging.mapBarrier = s.staging.mapBarrier := by
  simp only [closeWhere, State.setFreeIndex_staging]
  rw [foldl_closeLine_rest]
  exact ⟨rfl, rfl, rfl, rfl, rfl, rfl⟩

@[simp] theorem freeReads_rest (p : Line → Bool) (s : State) :
    (freeReads p s).staging.closedOrder = s.staging.closedOrder ∧
    (freeReads p s).staging.buffering = s.staging.buffering ∧
    (freeReads p s).staging.readAhead = s.staging.readAhead ∧
    (freeReads p s).staging.gatherIdle = s.staging.gatherIdle ∧
    (freeReads p s).staging.slotDrains = s.staging.slotDrains ∧
    (freeReads p s).staging.globalDrain = s.staging.globalDrain ∧
    (freeReads p s).staging.mapBarrier = s.staging.mapBarrier :=
  ⟨rfl, rfl, rfl, rfl, rfl, rfl, rfl⟩

/-- Closing along any order of the GATHERING lines with a property (R36). -/
theorem foldl_closeLine_shuts (p : Binding → Bool) (order : List LineIx) (s : State)
    (h : order.Perm (gatheringWhere p s)) : LinesShut p s (order.foldl closeLine s) := by
  have hm : ∀ j, j ∈ order ↔ ((lineAt j s).isGathering && (lineAt j s).binding.any p) = true := by
    intro j
    rw [h.mem_iff, gatheringWhere, List.mem_filter]
    simp [mem_allLines]
  have hn : order.Nodup := h.nodup_iff.mpr (List.Nodup.filter _ (by decide))
  have f := foldl_closeLine order s hn (fun i hi => by
    have := (hm i).mp hi
    simp only [Bool.and_eq_true] at this
    exact this.1)
  refine ⟨fun j => ?_, ⟨order, h, f.2.1⟩, f.2.2⟩
  rw [f.1]
  split
  · next hj => exact (shut_of_true ((hm j).mp hj)).symm
  · next hj => exact (shut_of_not (by simpa using mt (hm j).mpr hj)).symm

/-- Closing of the slot's GATHERING line (R26, R36). -/
theorem closeGathering_shuts (slot : Slot) (s : State) : LinesShut (boundTo slot) s (closeGathering slot s) :=
  foldl_closeLine_shuts (boundTo slot) _ s (List.Perm.refl _)

theorem lines_setFreeIndex (s : State) (n : Nat) (j : LineIx) : lineAt j (s.setFreeIndex n) = lineAt j s := rfl

/-- Closing of every GATHERING line with a property (R40, R41). -/
theorem closeWhere_shuts (p : Binding → Bool) (s : State) : LinesShut p s (closeWhere p s) :=
  foldl_closeLine_shuts p _ s (freeOrder_perm _ _)

/-! ### Freeing -/

theorem binding_shut (p : Binding → Bool) (l : Line) : (shut p l).binding = l.binding := by
  cases l <;> first | rfl | (simp only [shut]; split <;> rfl)

theorem freed_shut (p : Binding → Bool) (l : Line) :
    (if l.binding.any p = true then (shut p l).freed else shut p l) = quieted p l := by
  cases l with
  | free => rfl
  | fetching b f r stale tag => cases h : p b <;> simp [shut, quieted, Line.binding, Line.freed, h]
  | valid b f d c => cases h : p b <;> simp [shut, quieted, Line.binding, Line.freed, h]
  | error b f tag => cases h : p b <;> simp [shut, quieted, Line.binding, Line.freed, h]
  | gathering b d v t => cases h : p b <;> simp [shut, quieted, Line.binding, Line.freed, h]
  | closed b d v => cases h : p b <;> simp [shut, quieted, Line.binding, Line.freed, h]

/-- Closing, then freeing, of the lines with a property is their quieting (R36, R38). -/
theorem quieted_of_shut {p : Binding → Bool} {s t : State} (h : LinesShut p s t) :
    LinesQuieted p s (freeReads (fun l => l.binding.any p) t) := by
  obtain ⟨hl, ⟨order, ho, hc⟩, hr⟩ := h
  refine ⟨fun j => ?_, ⟨order, ho, by simpa [freeReads] using hc⟩, ?_⟩
  · rw [lineAt_freeReads, hl, binding_shut]
    exact freed_shut p _
  · simp only [freeReads, State.setStaging_staging, hr]
    congr 1
    funext j
    rw [hl, binding_shut]

theorem ofSlot_eq (slot : Slot) (l : Line) : l.ofSlot slot = l.binding.any (boundTo slot) := by
  unfold Line.ofSlot
  cases l.binding <;> rfl

theorem ofSlotLine_eq (slot : Slot) (h : HostAddr) (l : Line) :
    l.ofSlotLine slot h = l.binding.any (boundToLine slot h) := by
  unfold Line.ofSlotLine
  cases l.binding <;> rfl

theorem freeSlotReads_eq (slot : Slot) (s : State) :
    freeSlotReads slot s = freeReads (fun l => l.binding.any (boundTo slot)) s := by
  have : Line.ofSlot slot = fun l => l.binding.any (boundTo slot) := funext (ofSlot_eq slot)
  rw [freeSlotReads, this]

theorem freeAllReads_eq (s : State) : freeAllReads s = freeReads (fun l => l.binding.any (fun _ => true)) s := by
  have : (fun l : Line => !l.isFree) = fun l => l.binding.any (fun _ => true) := by
    funext l
    cases l <;> rfl
  rw [freeAllReads, this]

/-- What fence, disable and reset do to the slot's lines (R44). -/
theorem quiesceSlot_quiets (slot : Slot) (s : State) : LinesQuieted (boundTo slot) s (quiesceSlot slot s) := by
  rw [quiesceSlot, freeSlotReads_eq]
  exact quieted_of_shut (closeGathering_shuts slot s)

@[simp] theorem quiesceSlot_rest (slot : Slot) (s : State) :
    (quiesceSlot slot s).staging.buffering = s.staging.buffering ∧
    (quiesceSlot slot s).staging.readAhead = s.staging.readAhead ∧
    (quiesceSlot slot s).staging.gatherIdle = s.staging.gatherIdle ∧
    (quiesceSlot slot s).staging.slotDrains = s.staging.slotDrains ∧
    (quiesceSlot slot s).staging.globalDrain = s.staging.globalDrain ∧
    (quiesceSlot slot s).staging.mapBarrier = s.staging.mapBarrier := by
  simp [quiesceSlot, freeSlotReads]

/-- A fence of an unfenced slot (R89, R44). -/
theorem fence_fences {slot : Slot} {s : State} (h : (s.bus.slots.get slot).fenced = false) :
    SlotFenced slot s (fence slot s) ∧ (fence slot s).staging.slotDrains = s.staging.slotDrains ∧
      (fence slot s).bus = { s.bus with slots := (fence slot s).bus.slots } := by
  have q := quiesceSlot_quiets slot (setSlot slot { s.bus.slots.get slot with fenced := true } s)
  have e : fence slot s = quiesceSlot slot (setSlot slot { s.bus.slots.get slot with fenced := true } s) := by
    simp [fence, h]
  rw [e]
  refine ⟨⟨by simp [setSlot], q, ?_, ?_⟩, ?_, ?_⟩ <;> simp [SettingsKept, MarksKept, setSlot]

/-- A fence of a fenced slot changes nothing (R89). -/
theorem fence_of_fenced {slot : Slot} {s : State} (h : (s.bus.slots.get slot).fenced = true) : fence slot s = s := by
  simp [fence, h]

/-! ### Faults -/

/-- What the Fault Unit does with a report (R142). -/
theorem takeFault_taken (r : FaultReport) (s : State) : FaultTaken r (autofences r s) s (takeFault r s) := by
  have hb : autofences r (markSummary r s) = autofences r s := by simp [autofences]
  have hm : (applyAutofence r (markSummary r s)).faults = (markSummary r s).faults := by simp
  have hs : (markSummary r s).faults =
      { s.faults with
        summaries :=
          match r.slot with
          | some slot => s.faults.summaries.set slot (s.faults.summaries.get slot ||| r.kind.summaryBit)
          | none => s.faults.summaries } := by
    unfold markSummary
    split <;> simp_all
  unfold FaultTaken takeFault admitFault
  by_cases h : s.faults.queue.length < 16 <;> cases hr : r.slot <;> simp [hs, hb, h, hr, Config.faultPlaces]

/-- A report that does not fence leaves slot records and lines alone (R143). -/
theorem takeFault_unfenced {r : FaultReport} {s : State} (h : autofences r s = false) :
    (takeFault r s).bus = s.bus ∧ (takeFault r s).staging = s.staging := by
  have hb : autofences r (markSummary r s) = false := by simpa [autofences] using h
  have : applyAutofence r (markSummary r s) = markSummary r s := by
    unfold applyAutofence
    split <;> simp [hb]
  simp [takeFault, this]

/-- A report that fences its slot (R143, R89). -/
theorem takeFault_fences {r : FaultReport} {slot : Slot} {s : State} (hr : r.slot = some slot)
    (h : autofences r s = true) :
    SlotFenced slot s (takeFault r s) ∧ (takeFault r s).staging.slotDrains = s.staging.slotDrains ∧
      (takeFault r s).bus = { s.bus with slots := (takeFault r s).bus.slots } := by
  have hb : autofences r (markSummary r s) = true := by simpa [autofences] using h
  have ha : applyAutofence r (markSummary r s) = fence slot (markSummary r s) := by
    simp [applyAutofence, hr, hb]
  have hf : (s.bus.slots.get slot).fenced = false := by
    simp only [autofences, hr, Bool.and_eq_true, Bool.not_eq_true'] at h
    exact h.2
  have f := fence_fences (slot := slot) (s := markSummary r s) (by simpa using hf)
  have hbus : (takeFault r s).bus = (fence slot (markSummary r s)).bus := by simp [takeFault, ha]
  have hstg : (takeFault r s).staging = (fence slot (markSummary r s)).staging := by simp [takeFault, ha]
  obtain ⟨⟨f1, ⟨f2, f3, f4⟩, f5, f6⟩, f7, f8⟩ := f
  have hms : (markSummary r s).bus = s.bus ∧ (markSummary r s).staging = s.staging := by simp
  refine ⟨⟨?_, ⟨fun j => ?_, ?_, ?_⟩, ?_, ?_⟩, ?_, ?_⟩
  · rw [hbus, f1, hms.1]
  · have := f2 j
    simp only [lineAt, hms.2] at this ⊢
    rw [hstg, this]
  · obtain ⟨order, ho, hc⟩ := f3
    refine ⟨order, ?_, ?_⟩
    · simpa only [lineAt, hms.2] using ho
    · rw [hstg, hc, hms.2]
  · rw [hstg, f4]
    simp only [lineAt, hms.2]
  · simpa only [SettingsKept, hstg, hms.2] using f5
  · simpa only [MarksKept, hstg, hms.2] using f6
  · rw [hstg, f7, hms.2]
  · rw [hbus]
    simpa only [hms.1] using f8

/-! ### Drains and barriers -/

/-- The beginning of a map barrier (R41). -/
theorem startMapBarrier_spec (p : Binding → Bool) (s : State) :
    LinesQuieted p s (startMapBarrier p s) ∧
      (startMapBarrier p s).staging.mapBarrier =
        ((startMapBarrier p s).staging.closedOrder.filter
          (fun i => (lineAt i (startMapBarrier p s)).binding.any p)).getLast?.map .line := by
  have q := quieted_of_shut (closeWhere_shuts p s)
  constructor
  · obtain ⟨q1, ⟨order, q2, q3⟩, q4⟩ := q
    exact ⟨q1, ⟨order, q2, q3⟩, q4⟩
  · rfl

/-- The beginning of a global drain (R40). -/
theorem startGlobalDrain_spec (s : State) :
    LinesShut (fun _ => true) s (startGlobalDrain s) ∧ DrainMarked (startGlobalDrain s) := by
  have q := closeWhere_shuts (fun _ => true) s
  constructor
  · obtain ⟨q1, ⟨order, q2, q3⟩, q4⟩ := q
    exact ⟨q1, ⟨order, q2, q3⟩, q4⟩
  · unfold DrainMarked startGlobalDrain globalMark
    rfl

/-- A global drain begun with freeing (R43, last row). -/
theorem drainAndFree_spec (s : State) :
    LinesQuieted (fun _ => true) s (drainAndFree s) ∧ DrainMarked (drainAndFree s) := by
  obtain ⟨h1, h2⟩ := startGlobalDrain_spec s
  constructor
  · rw [drainAndFree, freeAllReads_eq]
    exact quieted_of_shut h1
  · exact h2

/-! ### Untransmitted writes and events -/

theorem any_lines {p : Line → Bool} {s : State} : s.staging.lines.items.any p = true ↔ ∃ j, p (lineAt j s) = true := by
  rw [List.any_eq_true]
  constructor
  · rintro ⟨l, hl, h⟩
    obtain ⟨j, rfl⟩ := Table.mem_items.mp hl
    exact ⟨j, h⟩
  · rintro ⟨j, h⟩
    exact ⟨_, Table.mem_items.mpr ⟨j, rfl⟩, h⟩

theorem isWrite_shut (p : Binding → Bool) (l : Line) : (shut p l).isWrite = l.isWrite := by
  cases l <;> first | rfl | (simp only [shut]; split <;> rfl)

/-- Closing leaves the slot's untransmitted writes as they are (R39). -/
theorem untransmitted_of_shut {p : Binding → Bool} {s t : State} (h : LinesShut p s t) (ht : t.tracker = s.tracker)
    (slot : Slot) : untransmitted slot t = untransmitted slot s := by
  have hl : ∀ j, ((lineAt j t).isWrite && (lineAt j t).ofSlot slot) = ((lineAt j s).isWrite && (lineAt j s).ofSlot slot) := by
    intro j
    rw [h.1, isWrite_shut, ofSlot_eq, ofSlot_eq, binding_shut]
  have ha : t.staging.lines.items.any (fun l => l.isWrite && l.ofSlot slot) =
      s.staging.lines.items.any (fun l => l.isWrite && l.ofSlot slot) := by
    rw [Bool.eq_iff_iff, any_lines, any_lines]
    simp only [hl]
  simp only [untransmitted, hasPosted, ht, ha]

/-- A slot with no GATHERING line loses nothing by closing. -/
theorem untransmitted_closeGathering (slot x : Slot) (s : State) :
    untransmitted x (closeGathering slot s) = untransmitted x s :=
  untransmitted_of_shut (closeGathering_shuts slot s) (by simp) x

theorem raises_iff (slot : Slot) (s : State) : raises slot s = true ↔ Raisable slot s := by
  simp [raises, Raisable, eligible, SlotRecord.inReset, and_assoc]

/-- A line that calls for no event leaves everything as it is (R127). -/
theorem lookAtLine_idle {slot : Slot} {s : State} (h : ¬ Raisable slot s) : lookAtLine slot s = s := by
  rw [← raises_iff] at h
  simp [lookAtLine, h]

/-- The staging part of a raise (R128, R43). -/
theorem raise_begun (slot : Slot) (s : State) :
    LinesQuieted (boundTo slot) s (freeSlotReads slot (startSlotDrain .event slot s)) ∧
      (freeSlotReads slot (startSlotDrain .event slot s)).staging.slotDrains =
        s.staging.slotDrains.set slot
          { s.staging.slotDrains.get slot with event := if untransmitted slot s = true then .running else .idle } := by
  have q := closeGathering_shuts slot s
  have hs : LinesShut (boundTo slot) s (startSlotDrain .event slot s) := by
    obtain ⟨h1, ⟨o, h2, h3⟩, h4⟩ := q
    exact ⟨h1, ⟨o, h2, h3⟩, h4⟩
  constructor
  · rw [freeSlotReads_eq]
    exact quieted_of_shut hs
  · simp [freeSlotReads, startSlotDrain, setDrains, untransmitted_closeGathering]

/-- A line that calls for an event raises it (R127, R128, R129). -/
theorem lookAtLine_raised {slot : Slot} {s : State} (h : Raisable slot s) : Raised slot s (lookAtLine slot s) := by
  have hr : lookAtLine slot s = raiseEvent slot s := by simp [lookAtLine, (raises_iff slot s).mpr h]
  rw [hr]
  set u := setEvent slot { eventAt slot s with state := .pending false } s with hu
  obtain ⟨q, hd⟩ := raise_begun slot u
  set w := freeSlotReads slot (startSlotDrain .event slot u) with hw
  have hus : u.staging = s.staging := by simp [hu, setEvent]
  have hut : u.tracker = s.tracker := by simp [hu, setEvent]
  have hun : untransmitted slot u = untransmitted slot s := by simp [untransmitted, hasPosted, hus, hut]
  have hwe : w.events = { s.events with records := s.events.records.set slot { eventAt slot s with state := .pending false } } := by
    simp [hw, hu, setEvent, freeSlotReads, startSlotDrain, setDrains]
  have hwl : w.uplink = s.uplink := by simp [hw, hu, setEvent, freeSlotReads, startSlotDrain, setDrains]
  have hdr : w.staging.slotDrains.get slot =
      { s.staging.slotDrains.get slot with event := if untransmitted slot s = true then .running else .idle } := by
    rw [hd, Table.get_set_self, hun, hus]
  have hev : eventAt slot w = { eventAt slot s with state := .pending false } := by simp [eventAt, hwe]
  have hdrn : eventDrained slot w =
      if linkUp w then offerEvent slot w else setEvent slot { eventAt slot w with state := .pending true } w := by
    unfold eventDrained
    rw [hev]
  have hraise : raiseEvent slot s =
      if (w.staging.slotDrains.get slot).event = .idle then eventDrained slot w else w := rfl
  have hstg : (raiseEvent slot s).staging = w.staging := by
    rw [hraise]
    split
    · unfold eventDrained
      split
      · split <;> simp [offerEvent, setEvent]
      · rfl
    · rfl
  have rest : w.staging.buffering = s.staging.buffering ∧ w.staging.readAhead = s.staging.readAhead ∧
      w.staging.gatherIdle = s.staging.gatherIdle ∧ w.staging.globalDrain = s.staging.globalDrain ∧
      w.staging.mapBarrier = s.staging.mapBarrier := by
    simp [hw, hu, setEvent, freeSlotReads, startSlotDrain, setDrains]
  obtain ⟨q1, ⟨o, q2, q3⟩, q4⟩ := q
  refine ⟨⟨fun j => ?_, ⟨o, ?_, ?_⟩, ?_⟩, ?_, ?_, fun x => ?_, fun x => ?_, ?_⟩
  · have := q1 j
    simp only [lineAt, hus] at this ⊢
    rw [hstg, this]
  · simpa only [lineAt, hus] using q2
  · rw [hstg, q3, hus]
  · rw [hstg, q4, hus]
    simp only [lineAt, hus]
  · simp only [SettingsKept, hstg]
    exact ⟨rest.1, rest.2.1, rest.2.2.1⟩
  · simp only [MarksKept, hstg]
    exact rest.2.2.2
  · rw [hstg, hd, Table.get_set, hun, hus]
    by_cases e : slot = x
    · subst e
      simp
    · have e' : ¬ x = slot := fun a => e a.symm
      simp [e, e']
  · rw [hraise, hdr]
    by_cases e : slot = x
    · subst e
      by_cases hx : untransmitted slot s = true
      · simp [hx, hev]
      · by_cases hl : s.uplink.linkState = .up
        · simp [hx, hdrn, linkUp, hwl, hl, offerEvent, eventAt, hwe]
        · simp [hx, hdrn, linkUp, hwl, hl, setEvent, eventAt, hwe]
    · have e' : ¬ x = slot := fun a => e a.symm
      have hwx : eventAt x w = eventAt x s := by simp [eventAt, hwe, e]
      by_cases hx : untransmitted slot s = true
      · simp [hx, hwx, e']
      · have : eventAt x (eventDrained slot w) = eventAt x w := by
          by_cases hl : s.uplink.linkState = .up
          · simp [hdrn, linkUp, hwl, hl, offerEvent, eventAt, e]
          · simp [hdrn, linkUp, hwl, hl, setEvent, eventAt, e]
        simp [hx, this, hwx, e']
  · rw [hraise, hdr]
    by_cases hx : untransmitted slot s = true
    · simp [hx, hwe]
    · by_cases hl : s.uplink.linkState = .up
      · simp [hx, hdrn, linkUp, hwl, hl, offerEvent, hwe, hev]
      · simp [hx, hdrn, linkUp, hwl, hl, setEvent, hwe]

/-- Looking at a line does not move its level. -/
@[simp] theorem lookAtLine_lines (slot : Slot) (s : State) : (lookAtLine slot s).events.lines = s.events.lines := by
  have hd : ∀ t : State, (eventDrained slot t).events.lines = t.events.lines := by
    intro t
    unfold eventDrained
    split
    · split <;> simp [offerEvent, setEvent]
    · rfl
  unfold lookAtLine raiseEvent
  split
  · dsimp only
    split
    · rw [hd]
      simp [freeSlotReads, startSlotDrain, setDrains, setEvent]
    · simp [freeSlotReads, startSlotDrain, setDrains, setEvent]
  · rfl

end Sys2Proof.Machine
end

