-- ==== Sys2Proof/Laws/Accesses.lean ====
section
/-! SUPPORT. What window accesses of slots leave alone: every block but the Staging Unit, the Upstream Tracker and the Lock
Unit. -/

namespace Sys2Proof.Machine

/-- The blocks that no translated access of a slot touches are the same in both states. -/
def AccessKeeps (s t : State) : Prop :=
  t.pageMap = s.pageMap ∧ t.bus = s.bus ∧ t.master = s.master ∧ t.events = s.events ∧ t.faults = s.faults ∧
    t.command = s.command ∧ t.uplink = s.uplink ∧ t.now = s.now ∧ t.pending = s.pending

theorem accessKeeps_refl (s : State) : AccessKeeps s s := ⟨rfl, rfl, rfl, rfl, rfl, rfl, rfl, rfl, rfl⟩

theorem accessKeeps_trans {s t u : State} (h : AccessKeeps s t) (g : AccessKeeps t u) : AccessKeeps s u := by
  obtain ⟨h1, h2, h3, h4, h5, h6, h7, h8, h9⟩ := h
  obtain ⟨g1, g2, g3, g4, g5, g6, g7, g8, g9⟩ := g
  exact ⟨g1.trans h1, g2.trans h2, g3.trans h3, g4.trans h4, g5.trans h5, g6.trans h6, g7.trans h7, g8.trans h8,
    g9.trans h9⟩

theorem setLine_keeps (i : LineIx) (l : Line) (s : State) : AccessKeeps s (setLine i l s) := by simp [AccessKeeps]

theorem freeReads_keeps (p : Line → Bool) (s : State) : AccessKeeps s (freeReads p s) := by simp [AccessKeeps]

theorem closeGathering_keeps (slot : Slot) (s : State) : AccessKeeps s (closeGathering slot s) := by simp [AccessKeeps]

theorem bindFetch_keeps (i : LineIx) (b : Binding) (f : FetchSpan) (r : Option Nat) (s : State) :
    AccessKeeps s (bindFetch i b f r s) := by simp [AccessKeeps]

theorem takeLine_keeps {s t : State} {i : LineIx} (h : takeLine s = some (i, t)) : AccessKeeps s t := by
  unfold takeLine at h
  split at h
  · simp only [Option.some.injEq, Prod.mk.injEq] at h
    exact h.2 ▸ accessKeeps_refl s
  · split at h
    · simp only [Option.some.injEq, Prod.mk.injEq] at h
      exact h.2 ▸ setLine_keeps _ _ s
    · simp at h

theorem makeQuota_keeps {slot : Slot} {s t : State} (h : makeQuota slot s = some t) : AccessKeeps s t := by
  unfold makeQuota at h
  split at h
  · simp only [Option.some.injEq] at h
    exact h ▸ accessKeeps_refl s
  · split at h
    · simp only [Option.some.injEq] at h
      exact h ▸ setLine_keeps _ _ s
    · simp at h

theorem readMiss_keeps (t : Translation) (f : FetchSpan) (r : Option Nat) (s : State) :
    AccessKeeps s (readMiss t f r s) := by
  unfold readMiss
  split
  · simp [AccessKeeps]
  · split
    · exact accessKeeps_refl s
    · split
      · exact accessKeeps_refl s
      · next h =>
        split
        · exact accessKeeps_refl s
        · next h' =>
          exact accessKeeps_trans (accessKeeps_trans (makeQuota_keeps h) (takeLine_keeps h')) (bindFetch_keeps _ _ _ _ _)

theorem readAhead_keeps (b : Binding) (c : Nat) (s : State) : AccessKeeps s (readAhead b c s) := by
  unfold readAhead
  split
  · split
    · exact bindFetch_keeps _ _ _ _ _
    · exact accessKeeps_refl s
  · exact accessKeeps_refl s

theorem bufferedRead_keeps (t : Translation) (n : Nat) (s : State) : AccessKeeps s (bufferedRead t n s).2 := by
  unfold bufferedRead
  split
  · split
    · split
      · unfold consumeLine
        split
        · exact accessKeeps_trans (setLine_keeps _ _ _) (readAhead_keeps _ _ _)
        · exact accessKeeps_trans (setLine_keeps _ _ _) (readAhead_keeps _ _ _)
      · exact accessKeeps_trans (setLine_keeps _ _ _)
          (accessKeeps_trans (freeReads_keeps _ _) (readMiss_keeps _ _ _ _))
    · exact accessKeeps_refl s
  · split
    · exact accessKeeps_refl s
    · split
      · exact setLine_keeps _ _ _
      · exact accessKeeps_trans (freeReads_keeps _ _) (readMiss_keeps _ _ _ _)

theorem directRead_keeps (t : Translation) (n : Nat) (s : State) : AccessKeeps s (directRead t n s).2 := by
  unfold directRead
  split
  · split
    · exact setLine_keeps _ _ _
    · exact accessKeeps_refl s
  · split
    · exact accessKeeps_refl s
    · split
      · exact setLine_keeps _ _ _
      · exact accessKeeps_trans (freeReads_keeps _ _) (readMiss_keeps _ _ _ _)

theorem mergeInto_keeps (i : LineIx) (o : Nat) (bytes : List Byte) (s : State) :
    AccessKeeps s (mergeInto i o bytes s) := by simp [AccessKeeps]

theorem bufferedWrite_keeps (t : Translation) (bytes : List Byte) (s : State) :
    AccessKeeps s (bufferedWrite t bytes s).2 := by
  unfold bufferedWrite
  split
  · exact accessKeeps_refl s
  · refine accessKeeps_trans (freeReads_keeps (Line.ofSlotLine t.slot t.hostLine) s) ?_
    dsimp only
    split
    · exact mergeInto_keeps _ _ _ _
    · unfold gatherAnew
      refine accessKeeps_trans (closeGathering_keeps t.slot _) ?_
      dsimp only
      split
      · exact accessKeeps_refl _
      · split
        · exact accessKeeps_refl _
        · next h =>
          refine accessKeeps_trans (takeLine_keeps h) (accessKeeps_trans ?_ (mergeInto_keeps _ _ _ _))
          simp [AccessKeeps]

theorem postWrite_keeps (slot : Slot) (h : HostAddr) (bytes : List Byte) (l : Bool) (s : State) :
    AccessKeeps s (postWrite slot h bytes l s) := by simp [AccessKeeps]

theorem directWrite_keeps (t : Translation) (bytes : List Byte) (s : State) : AccessKeeps s (directWrite t bytes s).2 := by
  unfold directWrite
  refine accessKeeps_trans (closeGathering_keeps t.slot s) ?_
  dsimp only
  split
  · exact accessKeeps_refl _
  · refine accessKeeps_trans (freeReads_keeps (Line.ofSlotLine t.slot t.hostLine) _) ?_
    split
    · exact postWrite_keeps _ _ _ _ _
    · exact accessKeeps_refl _

theorem unlockedAccess_keeps (t : Translation) (x : Transfer) (s : State) : AccessKeeps s (unlockedAccess t x s).2 := by
  unfold unlockedAccess
  split
  · split
    · exact accessKeeps_trans (closeGathering_keeps _ _) (directRead_keeps _ _ _)
    · exact accessKeeps_trans (closeGathering_keeps _ _) (bufferedRead_keeps _ _ _)
  · split
    · exact directWrite_keeps _ _ _
    · exact bufferedWrite_keeps _ _ _

theorem setEpisode_keeps (e : Option Episode) (s : State) : AccessKeeps s (setEpisode e s) := by simp [AccessKeeps]

theorem allocateTag_keeps {r : Request} {s t : State} {tag : TagRef} (h : allocateTag r s = some (tag, t)) :
    AccessKeeps s t := by
  unfold allocateTag at h
  split at h
  · simp at h
  · simp only [Option.some.injEq, Prod.mk.injEq] at h
    rw [← h.2]
    simp [AccessKeeps]

theorem openLockedRead_keeps (e : Episode) (t : Translation) (n : Nat) (s : State) :
    AccessKeeps s (openLockedRead e t n s) := by
  unfold openLockedRead
  refine accessKeeps_trans (setEpisode_keeps (some { e with heldRead := none }) s) ?_
  dsimp only
  split
  · exact accessKeeps_refl _
  · split
    · next h => exact accessKeeps_trans (allocateTag_keeps h) (setEpisode_keeps _ _)
    · exact accessKeeps_refl _

theorem lockedRead_keeps (e : Episode) (t : Translation) (n : Nat) (s : State) :
    AccessKeeps s (lockedRead e t n s).2 := by
  unfold lockedRead
  split
  · exact accessKeeps_refl s
  · split
    · exact openLockedRead_keeps _ _ _ _
    · split
      · exact accessKeeps_refl s
      · split
        · exact setEpisode_keeps _ _
        · exact openLockedRead_keeps _ _ _ _
      · split
        · exact setEpisode_keeps _ _
        · exact openLockedRead_keeps _ _ _ _

theorem lockedWrite_keeps (e : Episode) (t : Translation) (bytes : List Byte) (s : State) :
    AccessKeeps s (lockedWrite e t bytes s).2 := by
  unfold lockedWrite
  (repeat' split) <;> exact accessKeeps_refl s

theorem lockedInNone_keeps (t : Translation) (s : State) : AccessKeeps s (lockedInNone t s).2 := by
  unfold lockedInNone
  split
  · simp [AccessKeeps]
  · simp [AccessKeeps]

theorem lockedAccess_keeps (t : Translation) (x : Transfer) (s : State) : AccessKeeps s (lockedAccess t x s).2 := by
  unfold lockedAccess
  have h : AccessKeeps s (freeSlotReads t.slot (closeGathering t.slot s)) :=
    accessKeeps_trans (closeGathering_keeps _ _) (freeReads_keeps _ _)
  dsimp only
  split
  · exact accessKeeps_trans h (lockedInNone_keeps _ _)
  · split
    · exact h
    · split
      · exact h
      · split
        · exact accessKeeps_trans h (lockedRead_keeps _ _ _ _)
        · exact accessKeeps_trans h (lockedWrite_keeps _ _ _ _)
      · exact h

/-- A translated access touches the Staging Unit, the Upstream Tracker and the Lock Unit alone (R8, R78). -/
theorem serve_keeps (t : Translation) (x : Transfer) (lock : Bool) (s : State) : AccessKeeps s (serve t x lock s).2 := by
  unfold serve
  split
  · exact lockedAccess_keeps _ _ _
  · exact unlockedAccess_keeps _ _ _

end Sys2Proof.Machine
end

