-- ==== Sys2Proof/Laws/PerInstr.lean ====
section
/-! SUPPORT. Well-formedness instruction by instruction: what a command carries from outside fits the largest payload of R184
and R185 and the longest transaction of R73. -/

namespace Sys2Proof.Laws.WellFormed

/-- The number of payload bytes or transferred bytes that a command carries. -/
def carried : Instr → Nat
  | .initReceived p => p.length
  | .ackReceived p => p.length
  | .nakReceived p => p.length
  | .creditReceived p => p.length
  | .linkResetReceived p => p.length
  | .commandReceived _ _ p => p.length
  | .memDataReceived _ _ p => p.length
  | .slotPresentation _ _ t _ => t.length
  | .presentationAnswer _ data => data.length
  | _ => 0

/-- A well-formed command carries at most 136 bytes. -/
def Statement (i : Instr) : Prop := i.wellFormed = true → carried i ≤ 136

theorem powerOnReset : Statement .powerOnReset := fun _ => Nat.zero_le _

theorem initReceived (payload : List Byte) : Statement (.initReceived payload) := by
  intro h
  simp only [Instr.wellFormed, beq_iff_eq, carried] at *
  omega

theorem ackReceived (payload : List Byte) : Statement (.ackReceived payload) := by
  intro h
  simp only [Instr.wellFormed, beq_iff_eq, carried] at *
  omega

theorem nakReceived (payload : List Byte) : Statement (.nakReceived payload) := by
  intro h
  simp only [Instr.wellFormed, beq_iff_eq, carried] at *
  omega

theorem creditReceived (payload : List Byte) : Statement (.creditReceived payload) := by
  intro h
  simp only [Instr.wellFormed, beq_iff_eq, carried] at *
  omega

theorem linkResetReceived (payload : List Byte) : Statement (.linkResetReceived payload) := by
  intro h
  simp only [Instr.wellFormed, beq_iff_eq, carried] at *
  omega

theorem commandReceived (seq ackSeq : SeqNo) (payload : List Byte) : Statement (.commandReceived seq ackSeq payload) := by
  intro h
  simp only [Instr.wellFormed, decide_eq_true_eq, carried] at *
  omega

theorem memDataReceived (seq ackSeq : SeqNo) (payload : List Byte) : Statement (.memDataReceived seq ackSeq payload) := by
  intro h
  simp only [Instr.wellFormed, Bool.and_eq_true, decide_eq_true_eq, carried] at *
  omega

theorem badFrameReceived (bytes : List Byte) : Statement (.badFrameReceived bytes) := fun _ => Nat.zero_le _

theorem lossOfSignal : Statement .lossOfSignal := fun _ => Nat.zero_le _

theorem initIntervalExpiry : Statement .initIntervalExpiry := fun _ => Nat.zero_le _

theorem trainingDeadlineExpiry : Statement .trainingDeadlineExpiry := fun _ => Nat.zero_le _

theorem ackDeadlineExpiry : Statement .ackDeadlineExpiry := fun _ => Nat.zero_le _

theorem replayDeadlineExpiry : Statement .replayDeadlineExpiry := fun _ => Nat.zero_le _

theorem transmitterFree : Statement .transmitterFree := fun _ => Nat.zero_le _

theorem heldEntryTaken : Statement .heldEntryTaken := fun _ => Nat.zero_le _

theorem mapWrite : Statement .mapWrite := fun _ => Nat.zero_le _

theorem mapRead : Statement .mapRead := fun _ => Nat.zero_le _

theorem mapInvalidate : Statement .mapInvalidate := fun _ => Nat.zero_le _

theorem windowSet : Statement .windowSet := fun _ => Nat.zero_le _

theorem bufferControlFlush : Statement .bufferControlFlush := fun _ => Nat.zero_le _

theorem bufferControlEnable : Statement .bufferControlEnable := fun _ => Nat.zero_le _

theorem bufferControlDisable : Statement .bufferControlDisable := fun _ => Nat.zero_le _

theorem setLimits : Statement .setLimits := fun _ => Nat.zero_le _

theorem slotControlEnable : Statement .slotControlEnable := fun _ => Nat.zero_le _

theorem slotControlDisable : Statement .slotControlDisable := fun _ => Nat.zero_le _

theorem slotControlFence : Statement .slotControlFence := fun _ => Nat.zero_le _

theorem slotControlUnfence : Statement .slotControlUnfence := fun _ => Nat.zero_le _

theorem slotControlReset : Statement .slotControlReset := fun _ => Nat.zero_le _

theorem slotControlMask : Statement .slotControlMask := fun _ => Nat.zero_le _

theorem slotControlUnmask : Statement .slotControlUnmask := fun _ => Nat.zero_le _

theorem slotControlClearFaults : Statement .slotControlClearFaults := fun _ => Nat.zero_le _

theorem slotControlAutofenceOn : Statement .slotControlAutofenceOn := fun _ => Nat.zero_le _

theorem slotControlAutofenceOff : Statement .slotControlAutofenceOff := fun _ => Nat.zero_le _

theorem cardRead : Statement .cardRead := fun _ => Nat.zero_le _

theorem cardWrite : Statement .cardWrite := fun _ => Nat.zero_le _

theorem lockOpen : Statement .lockOpen := fun _ => Nat.zero_le _

theorem lockClose : Statement .lockClose := fun _ => Nat.zero_le _

theorem bridgeReset : Statement .bridgeReset := fun _ => Nat.zero_le _

theorem slotPresentation (slot : Slot) (address : BusAddress) (transfer : Transfer) (lock : Bool) : Statement (.slotPresentation slot address transfer lock) := by
  intro h
  simp only [Instr.wellFormed, Transfer.wellFormed, Bool.and_eq_true, decide_eq_true_eq, carried] at *
  omega

theorem lockRelease (slot : Slot) : Statement (.lockRelease slot) := fun _ => Nat.zero_le _

theorem busGrant (requests : BitVec 6) : Statement (.busGrant requests) := fun _ => Nat.zero_le _

theorem grantIdleTimeout : Statement .grantIdleTimeout := fun _ => Nat.zero_le _

theorem requestDropped (slot : Slot) : Statement (.requestDropped slot) := fun _ => Nat.zero_le _

theorem presentationAnswer (response : Response) (data : List Byte) : Statement (.presentationAnswer response data) := by
  intro h
  simp only [Instr.wellFormed, Bool.and_eq_true, decide_eq_true_eq, carried] at *
  omega

theorem noClaim : Statement .noClaim := fun _ => Nat.zero_le _

theorem interruptAssertion (slot : Slot) : Statement (.interruptAssertion slot) := fun _ => Nat.zero_le _

theorem interruptDeassertion (slot : Slot) : Statement (.interruptDeassertion slot) := fun _ => Nat.zero_le _

theorem slotResetEnd (slot : Slot) : Statement (.slotResetEnd slot) := fun _ => Nat.zero_le _

theorem gatherIdleExpiry (line : LineIx) : Statement (.gatherIdleExpiry line) := fun _ => Nat.zero_le _

theorem readTimeoutExpiry (tag : TagIx) : Statement (.readTimeoutExpiry tag) := fun _ => Nat.zero_le _

theorem episodeLimitExpiry : Statement .episodeLimitExpiry := fun _ => Nat.zero_le _

theorem lockLimitExpiry : Statement .lockLimitExpiry := fun _ => Nat.zero_le _

theorem reinitialisationComplete : Statement .reinitialisationComplete := fun _ => Nat.zero_le _

theorem slotDrainComplete (slot : Slot) : Statement (.slotDrainComplete slot) := fun _ => Nat.zero_le _

theorem globalDrainComplete : Statement .globalDrainComplete := fun _ => Nat.zero_le _

theorem mapBarrierComplete : Statement .mapBarrierComplete := fun _ => Nat.zero_le _

theorem closedLineMove : Statement .closedLineMove := fun _ => Nat.zero_le _

theorem exclEndPlaced : Statement .exclEndPlaced := fun _ => Nat.zero_le _

theorem exclBeginAllocation : Statement .exclBeginAllocation := fun _ => Nat.zero_le _

theorem slotTransactionAnswer (response : Response) : Statement (.slotTransactionAnswer response) := fun _ => Nat.zero_le _

theorem slotTransactionNoClaim : Statement .slotTransactionNoClaim := fun _ => Nat.zero_le _

end Sys2Proof.Laws.WellFormed
end

