-- ==== Sys2Proof/Tests/Slice0.lean ====
section
/-! SUPPORT. The model's own tests: ill-formed commands that the check refuses, single steps on small states, and for every
statement of Obligations.lean with hypotheses a state that meets them (witness_<its name>). -/

namespace Sys2Proof.Tests

open Sys2Proof.Machine

set_option Elab.async false

/-! ### Ill-formed commands -/

theorem test_wellFormed_accepts :
    (Instr.initReceived (zeros 12)).wellFormed = true ∧ (Instr.commandReceived 0 0 (zeros 136)).wellFormed = true ∧
      (Instr.memDataReceived 0 0 (zeros 4)).wellFormed = true ∧
      (Instr.slotPresentation 5 (.io 0) (.read 64) true).wellFormed = true ∧
      (Instr.presentationAnswer (.partly 63) (zeros 63)).wellFormed = true := by decide +kernel

theorem test_wellFormed_refuses_init_length : (Instr.initReceived (zeros 11)).wellFormed = false := by decide +kernel

theorem test_wellFormed_refuses_ack_length : (Instr.ackReceived (zeros 5)).wellFormed = false := by decide +kernel

theorem test_wellFormed_refuses_nak_length : (Instr.nakReceived (zeros 3)).wellFormed = false := by decide +kernel

theorem test_wellFormed_refuses_credit_length : (Instr.creditReceived []).wellFormed = false := by decide +kernel

theorem test_wellFormed_refuses_reset_payload : (Instr.linkResetReceived [0]).wellFormed = false := by decide +kernel

theorem test_wellFormed_refuses_long_command : (Instr.commandReceived 0 0 (zeros 137)).wellFormed = false := by decide +kernel

theorem test_wellFormed_refuses_data_lengths :
    (Instr.memDataReceived 0 0 (zeros 3)).wellFormed = false ∧ (Instr.memDataReceived 0 0 (zeros 69)).wellFormed = false := by
  decide +kernel

theorem test_wellFormed_refuses_transfer_lengths :
    (Instr.slotPresentation 0 (.memory 0) (.read 0) false).wellFormed = false ∧
      (Instr.slotPresentation 0 (.memory 0) (.write (zeros 65)) false).wellFormed = false := by decide +kernel

theorem test_wellFormed_refuses_answers :
    (Instr.presentationAnswer (.partly 0) []).wellFormed = false ∧
      (Instr.presentationAnswer .complete (zeros 65)).wellFormed = false ∧
      (Instr.slotTransactionAnswer (.partly 64)).wellFormed = false := by decide +kernel

theorem test_no_word_spells_a_command : decodeTableWord 8 0 = none ∧ State.withFetchWord State.reset 8 0 = State.reset :=
  ⟨rfl, rfl⟩

/-! ### Small states -/

/-- The link is UP after reset, with four credits of each class. -/
def up : State :=
  State.reset.setUplink
    { Uplink.reset with
      linkState := .up, initDue := false, initDeadline := none, requestCredits := 4, postedCredits := 4 }

/-- `up` with an Uplink Port of this kind. -/
def upWith (f : Uplink → Uplink) : State := up.setUplink (f up.uplink)

/-- A command queue entry. -/
def entry (code : Byte) (args : List Byte) : CommandEntry := ⟨7, code, args, false⟩

/-- The state with one command at the head of its queue. -/
def ordering (code : Byte) (args : List Byte) (s : State) : State :=
  s.setCommand { CommandUnit.reset with queue := [entry code args] }

/-- `up` with one command at the head of its queue. -/
def ordered (code : Byte) (args : List Byte) : State := ordering code args up

/-- The command executes and waits. -/
def executing (code : Byte) (args : List Byte) (w : Wait) (s : State) : State :=
  s.setCommand { CommandUnit.reset with executing := some ⟨7, code, args, w⟩ }

/-- The window at 40000000h with entry 140 of the example of section 1.3: HostFrame 00021A57h, slot 2. -/
def pageOf (access : Access) (mode : PageMode) : PageMap where
  on := true
  base := 0x40000000
  entries := PageMap.reset.entries.set 140 ⟨true, 0x21A57, access, 4, mode, 7⟩

/-- Slot 2 is enabled, has the bus and may use entry 140. -/
def card (mode : PageMode) : State :=
  (up.setPageMap (pageOf .readWrite mode)).setBus
    { SlotBus.reset with slots := SlotBus.reset.slots.set 2 { SlotRecord.reset with enabled := true }, owner := .slot 2 }

/-- The card address of the example of section 1.3. -/
def addr : CardAddr := 0x40231234

/-- Its translation for slot 2. -/
def translation (mode : PageMode) : Translation := ⟨2, 0x8695D234, 140, 7, mode⟩

/-- The binding of a line for it. -/
def binding : Binding := ⟨2, 0x8695D200, 140, 7⟩

/-- 64 bytes of 0. -/
def zeroData : Table Byte 64 := Table.fill 64 0

/-- The state with one staging line replaced. -/
def withLine (i : LineIx) (l : Line) (s : State) : State :=
  s.setStaging { s.staging with lines := s.staging.lines.set i l }

/-- A posted entry of slot 2. -/
def posted (n : BitVec 16) : PostedEntry := ⟨2, .write 0xFF zeroData, 0x8695D240, false, n⟩

/-- The state with posted entries numbered from 0. -/
def withPosted (n : Nat) (s : State) : State :=
  s.setTracker
    { s.tracker with posted := (List.range n).map (fun k => posted (BitVec.ofNat 16 k)), nextPosted := BitVec.ofNat 16 n }

/-- A request of slot 2. -/
def request (p : Purpose) (n : Nat) : Request := ⟨p, 0x8695D234, n, 2⟩

/-- The state with tag 3 OUTSTANDING at generation 1. -/
def withTag (p : Purpose) (n : Nat) (s : State) : State :=
  s.setTracker { s.tracker with tags := s.tracker.tags.set 3 ⟨.outstanding (request p n) 40000, 1⟩ }

/-- An episode of slot 2. -/
def episode (st : EpisodeState) : Episode where
  state := st
  slot := 2
  hostAddress := 0x8695D234
  beginQueued := false
  beginTag := none
  limit := some 100
  heldRead := none
  endPending := false

/-- The state with an episode in progress. -/
def withEpisode (e : Episode) (s : State) : State := s.setLocks { s.locks with episode := some e }

/-- The state with the host lock in this state. -/
def withLock (h : HostLock) (s : State) : State := s.setLocks { s.locks with hostLock := h }

/-- A downstream access of 4 bytes. -/
def access (write : Bool) (p : Phase) : Downstream where
  tag := 7
  write := write
  space := .memory
  slot := none
  address := 0x20001000
  length := 4
  data := if write then [1, 2, 3, 4] else []
  bytesDone := 0
  retryCount := 0
  retryLimit := 256
  phase := p

/-- The bridge master owns the bus for this access. -/
def mastering (d : Downstream) : State :=
  (((executing 0x08 [1, 0, 4, 0, 0x20, 0, 0x10, 0] .bus up).setMaster { BridgeMaster.reset with access := some d })).setBus
    { SlotBus.reset with
      slots := SlotBus.reset.slots.set 2 { SlotRecord.reset with enabled := true }
      owner := .master
      deadline := some 4
      claimants := [2] }

/-- Slot 2 is enabled and nobody owns the bus. -/
def slotEnabled : State :=
  up.setBus { SlotBus.reset with slots := SlotBus.reset.slots.set 2 { SlotRecord.reset with enabled := true } }

/-- The state with the event record of slot 2 and the level of its line. -/
def withEvent (r : EventRecord) (line : Bool) (s : State) : State :=
  s.setEvents { s.events with records := s.events.records.set 2 r, lines := s.events.lines.set 2 line }

/-- The next state of a command, from outside the Outcome. -/
def after (c : Instr) (s : State) : State :=
  match exec c s with
  | .next t => t
  | .fault _ => s
  | .refused _ => s

/-! ### Single steps -/

theorem test_translation_example :
    translate (pageOf .readWrite .buffered) 2 addr false false = .passed (translation .buffered) ∧
      (translation .buffered).offset = 0x34 ∧ (translation .buffered).hostLine = 0x8695D200 := by decide +kernel

theorem test_crc_check_value :
    crc [0x31, 0x32, 0x33, 0x34, 0x35, 0x36, 0x37, 0x38, 0x39] = 0xCBF43926 := by decide +kernel

theorem test_ack_frame_is_good :
    checkFrame ([0x02, 0, 0, 0, 0, 4, 41, 0, 0, 0] ++ crcField [0x02, 0, 0, 0, 0, 4, 41, 0, 0, 0]) = .good := by
  decide +kernel

theorem test_read_miss_binds_lowest_line_and_tag :
    lineAt 0 (after (.slotPresentation 2 (.memory addr) (.read 8) false) (card .buffered)) =
      .fetching binding ⟨false, 52, 64⟩ none false ⟨0, 0⟩ ∧
      (after (.slotPresentation 2 (.memory addr) (.read 8) false) (card .buffered)).tracker.requestQueue = [0] := by
  decide +kernel

theorem test_read_across_the_block_is_partial :
    (after (.slotPresentation 2 (.memory addr) (.read 16) false)
      (withLine 0 (.valid binding ⟨false, 0, 64⟩ (zeros 64) 0) (card .buffered))).bus.answer =
      some ⟨.partly 12, zeros 12⟩ := by decide +kernel

theorem test_disabled_slot_is_aborted_and_counted :
    let s := (card .buffered).setBus { (card .buffered).bus with slots := SlotBus.reset.slots }
    ((after (.slotPresentation 2 (.memory addr) (.read 8) false) s).bus.slots.get 2).fencedAborts = 1 := by decide +kernel

theorem test_refused_write_fences_the_slot :
    let s := (card .buffered).setPageMap (pageOf .read .buffered)
    let t := after (.slotPresentation 2 (.memory addr) (.write [1]) false) s
    (t.bus.slots.get 2).fenced = true ∧ t.faults.queue.map (fun r => (r.report.kind, r.fenced)) = [(.accessDenied, true)] := by
  decide +kernel

theorem test_window_set_executes :
    (after .windowSet (ordered 0x04 [1, 0, 0, 0, 0x40, 0, 0, 0])).pageMap.base = 0x40000000 ∧
      (after .windowSet (ordered 0x04 [1, 0, 0, 0, 0x40, 0, 0, 0])).command.replies = [.reply 7 0x04 .ok []] := by
  decide +kernel

theorem test_set_limits_example :
    (after .setLimits
      (ordering 0x06 [0x10, 0, 0, 0, 8, 0, 0, 0, 0, 0, 0, 0] (up.setTracker { up.tracker with holdHigh := 8 }))).command.replies =
      [.reply 7 0x06 .badArgument []] := by decide +kernel

theorem test_unknown_command_is_answered :
    (after (.commandReceived 0 63 [0, 5, 0x0F, 0]) up).command.replies = [.reply 5 0x0F .unknownCommand []] := by
  decide +kernel

theorem test_episode_overrun_fences :
    let s := withEpisode (episode .requested) slotEnabled
    let t := after .episodeLimitExpiry s
    (t.bus.slots.get 2).fenced = true ∧ t.locks.episode = none ∧ t.now = 100 := by decide +kernel

theorem test_nak_example :
    let frames : List SentFrame := [40, 41, 42, 43, 44, 45].map (fun n => ⟨n, .exclEnd 1 0⟩)
    let t := after (.nakReceived [41, 0, 0, 0]) (upWith (fun u => { u with nextTx := 46, replay := frames }))
    t.uplink.replay.map (·.seq) = [42, 43, 44, 45] ∧ t.uplink.replayNext = some 42 ∧ t.uplink.replayCount = 1 := by
  decide +kernel

theorem test_idle_step_passes_half_a_microsecond : step State.reset = .next (State.reset.setNow 1) := rfl

theorem test_no_card_answers_while_every_slot_is_disabled :
    let s := (mastering (access true .presenting)).setBus { SlotBus.reset with owner := .master, deadline := some 4 }
    after (.presentationAnswer .complete []) s = s ∧
      (after .noClaim s).command.replies = [.reply 7 0x08 .noTarget [0, 0, 0, 0]] := by decide +kernel

theorem test_card_presented_to_in_reset_does_not_answer_after_it :
    let d : Downstream := { access false .requesting with space := .identity, slot := some 2, address := 0 }
    let s := (setSlot 2 { SlotRecord.reset with enabled := true, resetDeadline := some 200 } (mastering d)).setBus
      { SlotBus.reset with
        slots := SlotBus.reset.slots.set 2 { SlotRecord.reset with enabled := true, resetDeadline := some 200 } }
    let t := after (.slotResetEnd 2) (after (.busGrant 0) s)
    eligible 2 t = true ∧ t.bus.owner = .master ∧ after (.presentationAnswer .complete [1, 2, 3, 4]) t = t := by
  decide +kernel

/-! ### The hypotheses of the statements are met: the step and the invariants -/

theorem witness_StepRunsFrontCommand : (up.setPending [.lossOfSignal]).pending = [.lossOfSignal] := rfl

/-- Work of every kind in progress, and the transmitter free. -/
def busy : State :=
  { up with
    staging :=
      { up.staging with
        lines := (up.staging.lines.set 3 (.closed binding zeroData 1)).set 5 (.valid binding ⟨false, 0, 64⟩ (zeros 64) 0)
        closedOrder := [3]
        lru := [5] }
    tracker :=
      { up.tracker with
        posted := [posted 65535, posted 0]
        nextPosted := 1
        tags := up.tracker.tags.set 4 ⟨.waiting (request .exclBegin 0), 2⟩
        requestQueue := [4] }
    events :=
      { up.events with
        records := up.events.records.set 1 { EventRecord.reset with state := .sent false }
        offered := [⟨1, 0, false⟩] }
    faults := { up.faults with queue := [⟨57, { kind := .hostError }, false, 0⟩], nextSeq := 58 }
    uplink := { up.uplink with replay := [⟨63, .exclEnd 1 0⟩], nextTx := 0 }
    pending := [.transmitterFree] }

/-- The tag is WAITING. -/
def waits : TagState → Bool
  | .waiting _ => true
  | _ => false

theorem waits_iff (x : TagState) : (∃ r, x = .waiting r) ↔ waits x = true := by cases x <;> simp [waits]

theorem witness_StepKeeps_lists :
    WithinBounds busy ∧ PostedNumbered busy ∧ FaultsNumbered busy ∧ ReplayNumbered busy ∧ LinesOrdered busy ∧
      EventsOffered busy ∧ ∃ t, step busy = .next t := by
  refine ⟨by unfold WithinBounds; decide +kernel, ⟨rfl, rfl⟩,
    rfl, ?_, by unfold LinesOrdered; decide +kernel,
    by unfold EventsOffered; decide +kernel, ⟨_, rfl⟩⟩
  exact ⟨rfl, fun h => absurd rfl h⟩

theorem witness_StepKeepsBoundsAndRanges_replies :
    (∀ n ∈ [0, 16],
      ReplyRoom ((up.setCommand { CommandUnit.reset with replies := List.replicate n (.notice .resetDone) }).setPending
        [.initIntervalExpiry])) ∧
      ReplyRoom ((withLock (.held 9) (executing 0x0A [] .bus (setSlot 2 { SlotRecord.reset with resetDeadline := some 200 } up))).setPending
        [.slotResetEnd 2]) := by
  unfold ReplyRoom
  decide +kernel

/-- The lines of slot 2 are two read lines, one of them stale, and a GATHERING line; line 3 is CLOSED and no longer current. -/
def fullQuota : State :=
  let s := withLine 0 (.valid binding ⟨false, 0, 64⟩ (zeros 64) 0) (withLine 1 (.fetching binding ⟨false, 0, 64⟩ none true ⟨3, 1⟩)
    (withLine 2 (.gathering binding zeroData 1 4) (withLine 3 (.closed { binding with epoch := 6, hostLine := 64 } zeroData 1)
      (card .buffered))))
  s.setStaging { s.staging with lru := [0], closedOrder := [3] }

theorem lineAt_fullQuota (i : LineIx) :
    lineAt i fullQuota =
      if i = 0 then .valid binding ⟨false, 0, 64⟩ (zeros 64) 0
      else if i = 1 then .fetching binding ⟨false, 0, 64⟩ none true ⟨3, 1⟩
      else if i = 2 then .gathering binding zeroData 1 4
      else if i = 3 then .closed { binding with epoch := 6, hostLine := 64 } zeroData 1
      else .free := by
  revert i
  decide +kernel

theorem witness_StepKeeps_quotas :
    LinesOrdered fullQuota ∧ WithinQuotas fullQuota ∧ readLineCount 2 fullQuota = 2 ∧
      ∃ t, step (fullQuota.setPending [.gatherIdleExpiry 2]) = .next t := by
  refine ⟨by unfold LinesOrdered; decide +kernel, by unfold WithinQuotas; decide +kernel, by decide +kernel, ⟨_, rfl⟩⟩

theorem witness_StepKeeps_current : LinesCurrent fullQuota := by
  intro i b hb hc hs
  rw [lineAt_fullQuota] at hb hc hs
  split at hb
  · cases hb
    decide +kernel
  split at hb
  · simp_all [Line.isStale]
  split at hb
  · cases hb
    decide +kernel
  split at hb
  · simp_all [Line.isClosed]
  · cases hb

theorem witness_StepKeeps_distinct : LinesDistinct fullQuota := by
  have all : ∀ i j : LineIx, i ≠ j →
      ((lineAt i fullQuota).isRead = true → (lineAt j fullQuota).isRead = true →
        (lineAt i fullQuota).isStale = true ∨ (lineAt j fullQuota).isStale = true) ∧
      ((lineAt i fullQuota).isWrite = true → (lineAt j fullQuota).isWrite = true →
        (lineAt i fullQuota).binding ≠ (lineAt j fullQuota).binding ∧
          ((lineAt i fullQuota).binding.map (·.hostLine)) ≠ ((lineAt j fullQuota).binding.map (·.hostLine))) := by
    decide +kernel
  have line : ∀ (l : Line) (slot : Slot) (h : HostAddr), l.ofSlotLine slot h = true → l.binding.map (·.hostLine) = some h := by
    intro l slot h hl
    cases hb : l.binding <;> simp_all [Line.ofSlotLine]
  intro i j slot h hij hi hj
  refine ⟨(all i j hij).1, fun wi => ?_⟩
  by_contra wj
  rw [Bool.not_eq_false] at wj
  exact ((all i j hij).2 wi wj).2 ((line _ _ _ hi).trans (line _ _ _ hj).symm)

theorem witness_StepKeeps_claimants :
    ClaimantsEligible (mastering (access false .presenting)) ∧ (mastering (access false .presenting)).bus.claimants = [2] := by
  unfold ClaimantsEligible
  decide +kernel

theorem witness_StepKeepsRequestQueue : RequestQueued busy ∧ ∃ t, step busy = .next t := by
  refine ⟨?_, ⟨_, rfl⟩⟩
  simp only [RequestQueued, waits_iff]
  decide +kernel

theorem witness_StepKeeps_settings : SettingsInRange busy ∧ ∃ t, step busy = .next t := by
  refine ⟨by unfold SettingsInRange; decide +kernel, ⟨_, rfl⟩⟩

theorem witness_StepKeepsLockExclusion :
    let s := (withLock (.held 100) (mastering (access false .presenting))).setPending [.lockLimitExpiry]
    LockExclusion s ∧ lockHeld s = true ∧ ∃ t, step s = .next t :=
  ⟨fun _ => ⟨rfl, rfl⟩, rfl, ⟨_, rfl⟩⟩

theorem witness_StepKeepsQuietUnlessUp :
    let s := State.reset.setPending [.initIntervalExpiry]
    QuietUnlessUp s ∧ s.uplink.linkState ≠ .up ∧ ∃ t, step s = .next t := by
  refine ⟨by unfold QuietUnlessUp; decide +kernel, by decide +kernel, ⟨_, rfl⟩⟩

/-! ### The link -/

/-- A 12-byte INIT payload: Heard, MaxPayload 136, three credits of each class. -/
def initPayload (heard : Byte) : List Byte := [heard, 1, 0x24, 0x10, 0, 0, 0, 136, 8, 3, 3, 0]

theorem witness_InitAdvancesLink :
    (initPayload 0).length = 12 ∧ State.reset.uplink.linkState = .down ∧
      136 ≤ u16 ((initPayload 0).getD 6 0) ((initPayload 0).getD 7 0) ∧
      (upWith (fun u => { u with linkState := .training })).uplink.linkState = .training ∧
      ((initPayload 1).getD 0 0).getLsbD 0 = true := by decide +kernel

theorem witness_LinkLoss_causes :
    LossCause .lossOfSignal false true 0 up ∧ LossCause (.linkResetReceived []) false false 0 up ∧
      LossCause (.initReceived (initPayload 0)) true false 0 up ∧ up.uplink.linkState = .up :=
  ⟨.inl ⟨rfl, rfl, rfl, rfl⟩, .inr (.inl ⟨rfl, rfl, rfl, rfl⟩), .inr (.inr (.inl ⟨_, rfl, rfl, rfl, rfl, rfl⟩)), rfl⟩

theorem witness_LinkLoss_replayLimit :
    let s := upWith (fun u =>
      { u with replay := [⟨9, .exclEnd 1 0⟩], nextTx := 10, replayDeadline := some 100, replayCount := 4 })
    LossCause .replayDeadlineExpiry false true 100 s ∧ LossCause (.nakReceived [8, 0, 0, 0]) false true 0 s ∧
      s.uplink.linkState = .up := by
  refine ⟨.inr (.inr (.inr (.inl ⟨100, rfl, rfl, by decide +kernel, rfl, rfl, by decide +kernel⟩))),
    .inr (.inr (.inr (.inr ⟨_, rfl, rfl, ?_⟩))), rfl⟩
  decide +kernel

/-- `up` with a fault queue of n records. -/
def faultsHeld (n : Nat) : State :=
  up.setFaults { up.faults with queue := (List.range n).map (fun k => ⟨BitVec.ofNat 16 k, { kind := .hostError }, false, 0⟩) }

theorem witness_LinkLossEndsTraffic :
    (faultsHeld 15).faults.queue.length < 16 ∧ 16 ≤ (faultsHeld 16).faults.queue.length ∧
      (faultsHeld 16).uplink.linkState = .up := by decide +kernel

theorem witness_LinkLossDiscardsWork :
    masterPresenting up = false ∧ masterPresenting (mastering (access false .presenting)) = true ∧
      (mastering (access false .presenting)).uplink.linkState = .up ∧
      (let s := withLock (.held 9) (up.setBus { SlotBus.reset with owner := .master, masterLock := true });
        masterPresenting s = false ∧ masterReleased s.bus = SlotBus.reset) ∧
      masterPresenting (card .direct) = false ∧ masterReleased (card .direct).bus = (card .direct).bus := by decide +kernel

/-- The replay buffer holds Seq 62, 63 and 0. -/
def replaying (next : Option SeqNo) : State :=
  upWith (fun u =>
    { u with replay := [62, 63, 0].map (fun n => ⟨n, .exclEnd 1 0⟩), nextTx := 1, replayNext := next })

theorem witness_AckAndNakRemoveFrames :
    (replaying none).uplink.linkState = .up ∧ (replaying none).uplink.replay = ⟨62, .exclEnd 1 0⟩ :: [63, 0].map (fun n => ⟨n, .exclEnd 1 0⟩) ∧
      (namedSeq [62, 0, 0, 0] - 62).toNat = 0 ∧ (namedSeq [0, 0, 0, 0] - 62).toNat = 2 ∧
      (replaying (some 63)).uplink.replayNext = some 63 := by decide +kernel

/-- Oldest - 1, and the Seqs next to both ends of what the buffer and it leave over. -/
theorem witness_AckAndNakRemoveFrames_outside :
    (let u := (replaying none).uplink;
      u.replay.length ≤ 16 ∧ u.replayCount < 4 ∧ oldest u = 62 ∧ namedSeq [61, 0, 0, 0] + 1 = oldest u ∧
        ∀ n ∈ [(1 : Byte), 60],
          u.replay.length ≤ (namedSeq [n, 0, 0, 0] - oldest u).toNat ∧ namedSeq [n, 0, 0, 0] + 1 ≠ oldest u) ∧
      (up.uplink.replay = [] ∧ namedSeq [63, 0, 0, 0] + 1 = oldest up.uplink) := by decide +kernel

theorem witness_CreditFrameGrantsCredits :
    up.uplink.linkState = .up ∧ up.uplink.requestCredits.toNat + (251 : Byte).toNat ≤ 255 ∧
      up.uplink.postedCredits.toNat + (0 : Byte).toNat ≤ 255 ∧ 255 < up.uplink.requestCredits.toNat + (252 : Byte).toNat ∧
      up.faults.queue.length < 16 := by decide +kernel

theorem witness_BadFrameIsCountedAndNaked :
    checkFrame (zeros 9) = .crcFailed ∧ checkFrame ([0x7F, 0, 0, 0, 0, 0] ++ crcField [0x7F, 0, 0, 0, 0, 0]) = .malformed := by
  decide +kernel

theorem witness_LinkTimersExpire :
    (let s := upWith (fun u => { u with replay := [⟨9, .exclEnd 1 0⟩], replayDeadline := some 100, replayCount := 3 });
      s.uplink.replayDeadline = some 100 ∧ s.uplink.replay = [⟨9, .exclEnd 1 0⟩] ∧ s.uplink.replayCount < 4) ∧
      (State.reset.uplink.linkState ≠ .up ∧ State.reset.uplink.initDeadline = some 2000) ∧
      (let s := upWith (fun u => { u with linkState := .training, trainingDeadline := some 40000 });
        s.uplink.linkState = .training ∧ s.uplink.trainingDeadline = some 40000) ∧
      (upWith (fun u => { u with ackDeadline := some 16 })).uplink.ackDeadline = some 16 := by decide +kernel

/-! ### The transmitter -/

theorem witness_LinkFramesGoFirst :
    (upWith (fun u => { u with resetDue := true })).uplink.resetDue = true ∧
      (State.reset.uplink.resetDue = false ∧ State.reset.uplink.initDue = true) ∧
      (let u := (upWith (fun u => { u with nakDue := true })).uplink;
        u.resetDue = false ∧ u.initDue = false ∧ u.nakDue = true) ∧
      (let u := (upWith (fun u => { u with ackDue := true })).uplink;
        u.resetDue = false ∧ u.initDue = false ∧ u.nakDue = false ∧ u.ackDue = true) ∧
      (let u := (upWith (fun u => { u with pendingCredits := 1 })).uplink;
        u.resetDue = false ∧ u.initDue = false ∧ u.nakDue = false ∧ u.ackDue = false ∧ u.linkState = .up ∧
          0 < u.pendingCredits) ∧
      (let u := (replaying (some 63)).uplink;
        u.resetDue = false ∧ u.initDue = false ∧ u.nakDue = false ∧ u.ackDue = false ∧ u.pendingCredits = 0 ∧
          u.replayNext = some 63 ∧ u.replay.find? (fun f => f.seq = 63) = some ⟨63, .exclEnd 1 0⟩) := by decide +kernel

/-- Row 3 serves a class that is ready, where each of the four is not ready or not tested before it. -/
theorem chosen_of {s : State} {c : TxClass} (h : OnlyNewFrames s) (hr : Ready s c)
    (h1 : testedBefore s .reply < testedBefore s c → ¬ Ready s .reply)
    (h2 : testedBefore s .fault < testedBefore s c → ¬ Ready s .fault)
    (h3 : testedBefore s .posted < testedBefore s c → ¬ Ready s .posted)
    (h4 : testedBefore s .request < testedBefore s c → ¬ Ready s .request) : Chosen c s := by
  refine ⟨h, hr, fun x => ?_⟩
  cases x
  · exact h1
  · exact h2
  · exact h3
  · exact h4

/-- Work of the POSTED and REQUEST classes, with these credits and after this class. -/
def offering (postedCredits requestCredits : BitVec 8) (c : TxClass) : State :=
  { busy with
    events := up.events
    faults := up.faults
    uplink := { busy.uplink with postedCredits := postedCredits, requestCredits := requestCredits, classPointer := c } }

theorem witness_PostedAndRequestsAreTransmitted :
    (∀ c ∈ [TxClass.fault, .reply, .request], Chosen .posted (offering 1 0 c)) ∧
      (offering 1 0 .fault).tracker.posted = [posted 65535, posted 0] ∧
      (∀ c ∈ [TxClass.posted, .fault, .reply], Chosen .request (offering 0 1 c)) ∧
      (offering 0 1 .posted).tracker.requestQueue = [4] ∧
      ((offering 0 1 .posted).tracker.tags.get 4).state = .waiting (request .exclBegin 0) := by
  refine ⟨?_, rfl, ?_, rfl, rfl⟩
  all_goals
    intro c hc
    refine chosen_of (by unfold OnlyNewFrames RowThree; exact ⟨⟨rfl, rfl, rfl, rfl, rfl, rfl⟩, rfl, Nat.lt_of_sub_eq_succ rfl⟩) ?_ ?_ ?_ ?_ ?_
    all_goals
      unfold Ready
      revert c
      decide +kernel

/-- Heads without credit, 16 frames to be acknowledged, and a link that is not UP: no new frame. -/
theorem witness_PostedAndRequestsAreTransmitted_not :
    (RowThree (offering 0 0 .request) ∧ (∀ c, ¬ Ready (offering 0 0 .request) c) ∧
        (offering 0 0 .request).uplink.postedCredits = 0 ∧ (offering 0 0 .request).uplink.requestCredits = 0) ∧
      (let s := upWith (fun u => { u with replay := List.replicate 16 ⟨0, .exclEnd 1 0⟩ });
        RowThree s ∧ 16 ≤ s.uplink.replay.length) ∧
      (let s := upWith (fun u => { u with linkState := .training });
        RowThree s ∧ s.uplink.linkState ≠ .up) := by
  refine ⟨⟨by unfold RowThree; decide +kernel, ?_, rfl, rfl⟩, ⟨by unfold RowThree; decide +kernel, by decide +kernel⟩,
    ⟨by unfold RowThree; decide +kernel, by decide +kernel⟩⟩
  intro c
  cases c
  all_goals
    unfold Ready
    decide +kernel

theorem witness_ReportsAreTransmitted :
    (let s := (faultsHeld 16).setUplink { up.uplink with classPointer := .request };
      Chosen .fault s ∧ s.faults.queue ≠ []) ∧
      (let s := (busy.setCommand { busy.command with replies := [.notice .resetDone] });
        Chosen .reply s ∧ s.command.replies = [.notice .resetDone] ∧ s.uplink.replySource = .events) ∧
      (let s := busy.setUplink { busy.uplink with classPointer := .posted, requestCredits := 0 };
        Chosen .reply s ∧ s.events.offered = [⟨1, 0, false⟩] ∧ s.command.replies = []) := by
  refine ⟨⟨?_, by decide +kernel⟩, ⟨?_, rfl, rfl⟩, ⟨?_, rfl, rfl⟩⟩
  all_goals
    refine chosen_of (by unfold OnlyNewFrames RowThree; decide +kernel) ?_ ?_ ?_ ?_ ?_
    all_goals
      unfold Ready
      decide +kernel

/-! ### The page map -/

theorem witness_AccessPermitsByDirectionAndLock :
    ∀ x ∈ [Access.none, .read, .write, .readWrite],
      let m := pageOf x .buffered
      (m.entries.get (entryIndex m addr)).valid = true ∧ slotIn (m.entries.get (entryIndex m addr)).slots 2 = true ∧
        (m.entries.get (entryIndex m addr)).access = x := by decide +kernel

theorem witness_TranslationGivesHostAddress :
    let m : PageMap := { pageOf .readWrite .direct with entries := Table.fill 512 ⟨true, 0xFFFFFFFF, .readWrite, 4, .direct, 255⟩ }
    (inWindow m 0x40000000 = true ∧
        translate m 2 0x40000000 true true = .passed ⟨2, 0x3FFFFFFFC000, 0, 255, .direct⟩) ∧
      (inWindow m 0x407FFFFF = true ∧
        translate m 2 0x407FFFFF false false = .passed ⟨2, 0x3FFFFFFFFFFF, 511, 255, .direct⟩) ∧
      inWindow m 0x40800000 = false ∧ m.base.toNat % 0x800000 = 0 ∧
      (blockLength 0x4000003F (.read 64) = 1 ∧ 1 < (Transfer.read 64).length) ∧
      blockLength 0x40000000 (.read 64) = 64 := by decide +kernel

theorem witness_TranslationGivesHostAddress_example :
    (pageOf .readWrite .buffered).base = 0x40000000 ∧ ((pageOf .readWrite .buffered).entries.get 140).hostFrame = 0x21A57 ∧
      translate (pageOf .readWrite .buffered) 2 0x40231234 true true = .passed (translation .buffered) := by decide +kernel

/-- The record of the example of section 1.7: Valid, HostFrame 00030000h, READ, slot 2, BUFFERED. -/
def recordBytes : List Byte := [0x90, 4, 0, 0, 0, 3, 0, 0]

theorem witness_MapCommandsChangeEntriesAndBarrier :
    Heads (ordered 0x01 ([1, 255, 1, 0] ++ recordBytes)) (entry 0x01 ([1, 255, 1, 0] ++ recordBytes)) []
        (.mapWrite 511 [⟨true, 0x30000, .read, 4, .buffered⟩]) ∧
      Heads (ordered 0x03 [0, 0, 2, 0]) (entry 0x03 [0, 0, 2, 0]) [] (.mapInvalidate 0 512) ∧
      (ordered 0x03 [0, 0, 2, 0]).locks.episode = none := by
  unfold Heads
  decide +kernel

theorem witness_MapCommandsWaitForEpisode :
    (let s := withEpisode (episode .opened) (ordered 0x04 [1, 0, 0, 0, 0x40, 0, 0, 0]);
      Heads s (entry 0x04 [1, 0, 0, 0, 0x40, 0, 0, 0]) [] (.windowSet true 0x40000000) ∧
        s.locks.episode = some (episode .opened)) ∧
      (let s := withEpisode (episode .requested) (executing 0x03 [0, 0, 2, 0] .episode up);
        s.command.executing = some ⟨7, 0x03, [0, 0, 2, 0], .episode⟩ ∧
          parseCommand 0x03 [0, 0, 2, 0] = some (.mapInvalidate 0 512) ∧
          s.locks.episode = some (episode .requested)) := by
  unfold Heads
  decide +kernel

theorem witness_MapCommandsWaitForEpisode_starts :
    (∀ x ∈ [((0x01 : Byte), [1, 255, 1, 0] ++ recordBytes), (0x03, [0, 0, 2, 0]), (0x04, [1, 0, 0, 0, 0x40, 0, 0, 0])],
        ∃ c, parseCommand x.1 x.2 = some c ∧ IsMapCommand c) ∧
      (∀ s : State, EndsEpisode (.lockRelease 2) (episode .requested) s ∧ EndsEpisode .episodeLimitExpiry (episode .requested) s) ∧
      EndsEpisode (.lockRelease 2) (episode .opened) up ∧
      EndsEpisode .exclEndPlaced { episode .opened with endPending := true } (withPosted 15 up) ∧
      (let e : Episode := { episode .requested with beginQueued := true, beginTag := some ⟨3, 1⟩ };
        EndsEpisode (.readTimeoutExpiry 3) e (withTag .exclBegin 0 up) ∧
          EndsEpisode (.memDataReceived 0 63 [0x43, 1, 0, 0]) e (withTag .exclBegin 0 up)) ∧
      (∀ e : Episode, ∃ u, exec (.lockRelease 2) (withEpisode e (executing 0x04 (zeros 8) .none up)) = .next u) := by
  refine ⟨?_, fun s => ⟨.inl ⟨rfl, rfl, rfl⟩, .inr (.inr (.inr (.inl ⟨rfl, rfl, rfl, _, rfl⟩)))⟩,
    .inr (.inl ⟨rfl, rfl, rfl, by decide +kernel⟩), .inr (.inr (.inl ⟨rfl, rfl, by decide +kernel⟩)),
    ⟨.inr (.inr (.inr (.inr ⟨3, _, _, _, .readTimeout, rfl, rfl, rfl, rfl, .inl ⟨rfl, rfl, rfl⟩⟩))),
      .inr (.inr (.inr (.inr ⟨3, _, _, 0, .hostError, rfl, rfl, rfl, rfl,
        .inr ⟨0, 63, 0x43, 1, 0, 0, [], ⟨rfl, rfl, Nat.zero_le _⟩, Nat.zero_le _, rfl, rfl, rfl, rfl, .inl ⟨by decide, rfl⟩⟩⟩)))⟩,
    fun e => ⟨_, rfl⟩⟩
  intro x hx
  simp only [List.mem_cons, List.not_mem_nil, or_false] at hx
  rcases hx with rfl | rfl | rfl
  · exact ⟨.mapWrite 511 [⟨true, 0x30000, .read, 4, .buffered⟩], by decide +kernel, .inl ⟨_, _, rfl⟩⟩
  · exact ⟨.mapInvalidate 0 512, by decide +kernel, .inr (.inl ⟨_, _, rfl⟩)⟩
  · exact ⟨.windowSet true 0x40000000, by decide +kernel, .inr (.inr ⟨_, _, rfl⟩)⟩

theorem witness_MapReadReturnsEntries :
    Heads (ordered 0x02 [1, 0xF0, 16, 0]) (entry 0x02 [1, 0xF0, 16, 0]) [] (.mapRead 496 16) := by
  unfold Heads
  decide +kernel

theorem witness_WindowSetDrainsAndFrees :
    Heads (ordered 0x04 (zeros 8)) (entry 0x04 (zeros 8)) [] (.windowSet false 0) ∧
      (ordered 0x04 (zeros 8)).locks.episode = none := by
  unfold Heads
  decide +kernel

/-! ### Settings -/

theorem witness_BufferControlSetsAndDrains :
    Heads (ordered 0x05 [2, 1, 32, 0]) (entry 0x05 [2, 1, 32, 0]) [] (.bufferControl .enable (some 32) none) ∧
      Heads (ordered 0x05 [1, 0, 0, 0]) (entry 0x05 [1, 0, 0, 0]) [] (.bufferControl .flush none none) ∧
      Heads (ordered 0x05 [3, 2, 0, 1]) (entry 0x05 [3, 2, 0, 1]) [] (.bufferControl .disable none (some true)) := by
  unfold Heads
  decide +kernel

/-- SET_LIMITS of HoldLow 8 alone. -/
def holdLow8 : LimitFields where
  readTimeout := none
  episodeLimit := none
  lockLimit := none
  holdHigh := none
  holdLow := some 8
  retryLimit := none

theorem witness_SetLimitsChecksMarksThenSets :
    (let s := ordered 0x06 [0x10, 0, 0, 0, 8, 0, 0, 0, 0, 0, 0, 0];
      Heads s (entry 0x06 [0x10, 0, 0, 0, 8, 0, 0, 0, 0, 0, 0, 0]) [] (.setLimits holdLow8) ∧
        holdLow8.holdLow.getD s.tracker.holdLow < holdLow8.holdHigh.getD s.tracker.holdHigh) ∧
      (let s := (ordered 0x06 [0x10, 0, 0, 0, 8, 0, 0, 0, 0, 0, 0, 0]).setTracker { up.tracker with holdHigh := 8 };
        Heads s (entry 0x06 [0x10, 0, 0, 0, 8, 0, 0, 0, 0, 0, 0, 0]) [] (.setLimits holdLow8) ∧
          holdLow8.holdHigh.getD s.tracker.holdHigh ≤ holdLow8.holdLow.getD s.tracker.holdLow) := by
  unfold Heads
  decide +kernel

/-! ### SLOT_CONTROL -/

/-- SLOT_CONTROL of slot 2 heads the queue of this state. -/
def controls (action : Byte) (a : SlotAction) (s : State) : Prop :=
  Heads (ordering 0x07 [2, action, 0, 0] s) (entry 0x07 [2, action, 0, 0]) [] (.slotControl 2 a)

theorem controls_of {action : Byte} {a : SlotAction} {s : State} (h : slotAction action = some a)
    (hm : s.master.access = none) : controls action a s := by
  refine ⟨rfl, ?_, rfl, rfl, Nat.zero_le _, hm, ?_⟩
  · have hp : parseSlotControl [2, action, 0, 0] = some (.slotControl 2 a) := by
      rw [parseSlotControl, h]
      rfl
    exact hp
  · intro x hx
    rw [List.mem_singleton.mp hx]
    rfl

theorem witness_slotControl_heads :
    controls 1 .enable up ∧ controls 2 .disable up ∧ controls 3 .fence up ∧ controls 4 .unfence up ∧ controls 5 .reset up ∧
      controls 6 .mask up ∧ controls 7 .unmask up ∧ controls 8 .clearFaults up ∧ controls 9 .autofenceOn up ∧
      controls 10 .autofenceOff up :=
  ⟨controls_of rfl rfl, controls_of rfl rfl, controls_of rfl rfl, controls_of rfl rfl, controls_of rfl rfl,
    controls_of rfl rfl, controls_of rfl rfl, controls_of rfl rfl, controls_of rfl rfl, controls_of rfl rfl⟩

theorem witness_EnableAdmitsSlot :
    controls 1 .enable slotEnabled ∧ (up.bus.slots.get 2).enabled = false ∧ (slotEnabled.bus.slots.get 2).enabled = true ∧
      Raisable 2 (withEvent EventRecord.reset true slotEnabled) ∧ ¬ Raisable 2 (withEvent EventRecord.reset false slotEnabled) := by
  refine ⟨controls_of rfl rfl, ?_⟩
  unfold Raisable
  decide +kernel

theorem witness_DisableAndResetSilenceSlot :
    controls 2 .disable slotEnabled ∧ controls 5 .reset slotEnabled ∧ (slotEnabled.bus.slots.get 2).enabled = true ∧
      (up.bus.slots.get 2).enabled = false :=
  ⟨controls_of rfl rfl, controls_of rfl rfl, rfl, rfl⟩

theorem witness_FenceUnfenceAndClearFaults :
    controls 3 .fence (setSlot 2 { SlotRecord.reset with fenced := true } up) ∧
      ((setSlot 2 { SlotRecord.reset with fenced := true } up).bus.slots.get 2).fenced = true ∧
      (up.bus.slots.get 2).fenced = false :=
  ⟨controls_of rfl rfl, rfl, rfl⟩

theorem inWindow_addr {m : PageMap} (h : m.on = true) (hb : m.base = 0x40000000) : inWindow m addr = true := by
  rw [inWindow, h, hb]
  decide +kernel

/-- A presentation of slot 2 in this state, with its report to the Lock Unit made. -/
theorem presents_of (s r : State) (x : Transfer) (lock : Bool) (h1 : s.bus.owner = .slot 2) (h2 : s.bus.phase = .granted)
    (h3 : x.wellFormed = true) (h4 : if lock = true then r = s else exec (.lockRelease 2) s = .next r)
    (h5 : inWindow r.pageMap addr = true) : Presents 2 addr x lock s r := by
  refine ⟨h1, ?_, h3, h4, h5⟩
  intro b n h
  rw [h2] at h
  cases h

theorem witness_AutofenceIsSetAndRead :
    let s := setSlot 2 { SlotRecord.reset with enabled := true, autofence := false }
      ((card .buffered).setPageMap (pageOf .none .buffered))
    Presents 2 addr (.read 8) false s s ∧ PassesGates 2 s ∧ (s.bus.slots.get 2).autofence = false ∧
      translate s.pageMap 2 addr false false = .refused .accessDenied := by
  refine ⟨presents_of _ _ _ _ rfl rfl rfl rfl (by decide +kernel), ?_⟩
  unfold PassesGates
  decide +kernel

theorem witness_MaskAndUnmaskEvents :
    controls 6 .mask (withEvent { EventRecord.reset with state := .pending false } true up) ∧
      controls 7 .unmask (withEvent { EventRecord.reset with masked := true } true slotEnabled) ∧
      (eventAt 2 (withEvent { EventRecord.reset with state := .pending false } true up)).state = .pending false ∧
      (eventAt 2 up).state ≠ .pending false ∧
      Raisable 2 (setEvent 2 { EventRecord.reset with masked := false }
        (withEvent { EventRecord.reset with masked := true } true slotEnabled)) ∧
      ¬ Raisable 2 (setEvent 2 { EventRecord.reset with masked := false } up) := by
  refine ⟨controls_of rfl rfl, controls_of rfl rfl, ?_⟩
  unfold Raisable
  decide +kernel

/-! ### Downstream access and the host lock -/

/-- CARD_READ arguments: MEMORY, 4 bytes at this address byte. -/
def readArgs (top : Byte) : List Byte := [1, 0, 4, 0, top, 0, 0x10, 0]

/-- The access of `readArgs`. -/
def readFields (a : BitVec 32) : AccessFields where
  space := .memory
  slot := none
  address := a
  length := 4

/-- IDENTITY of slot 2, 4 bytes at 0. -/
def identityFields : AccessFields where
  space := .identity
  slot := some 2
  address := 0
  length := 4

theorem witness_CardAccessStarts :
    Heads (ordered 0x08 (readArgs 0x20)) (entry 0x08 (readArgs 0x20)) [] (.cardRead (readFields 0x20001000)) ∧
      Heads (ordered 0x09 (readArgs 0x20 ++ zeros 4)) (entry 0x09 (readArgs 0x20 ++ zeros 4)) []
        (.cardWrite (readFields 0x20001000) (zeros 4)) ∧
      accessInWindow up.pageMap (readFields 0x20001000) = false ∧
      accessInWindow (pageOf .none .direct) (readFields 0x40001000) = true ∧
      Heads (ordering 0x08 [3, 2, 4, 0, 0, 0, 0, 0] slotEnabled) (entry 0x08 [3, 2, 4, 0, 0, 0, 0, 0]) []
        (.cardRead identityFields) ∧
      (slotEnabled.bus.slots.get 2).enabled = true ∧ (up.bus.slots.get 2).enabled = false := by
  unfold Heads
  decide +kernel

theorem witness_LockOpenAcquires :
    Heads (ordered 0x0A []) (entry 0x0A []) [] .lockOpen ∧ (ordered 0x0A []).locks.hostLock = .free ∧
      Heads (withLock (.held 9) (ordered 0x0A [])) (entry 0x0A []) [] .lockOpen ∧
      (withLock (.held 9) (ordered 0x0A [])).locks.hostLock = .held 9 := by
  unfold Heads
  decide +kernel

theorem witness_LockCloseReleases :
    (let s := (withLock (.held 9) (ordered 0x0B [])).setBus { SlotBus.reset with owner := .master, masterLock := true };
      Heads s (entry 0x0B []) [] .lockClose ∧ s.locks.hostLock = .held 9 ∧ s.bus.owner = .master) ∧
      (ordered 0x0B []).locks.hostLock = .free ∧ InOrder 0 63 up ∧ ([] : List Byte).length ≤ 131 ∧
      up.command.queue.length < 8 ∧ up.command.replies.length ≤ 6 ∧ tagInUse (BitVec.ofNat 16 (u16 0 5)) up.command = false := by
  unfold Heads InOrder
  decide +kernel

theorem witness_BridgeResetResetsBlocks :
    Heads (ordered 0x0E []) (entry 0x0E []) [] .bridgeReset ∧
      (ordered 0x0E []).uplink.pendingCredits + ([] : List CommandEntry).length < 8 := by
  unfold Heads
  decide +kernel

/-! ### Presentations by slots -/

theorem witness_WindowGatesAbortAndCount :
    (∀ lock : Bool, Presents 2 addr (.read 8) lock (card .buffered) (card .buffered)) ∧ PassesGates 2 (card .buffered) ∧
      (let s := setSlot 2 { SlotRecord.reset with enabled := true, fenced := true } (card .buffered);
        Presents 2 addr (.read 64) true s s ∧ (s.bus.slots.get 2).fenced = true) ∧
      (let s := (card .buffered).setUplink State.reset.uplink;
        Presents 2 addr (.write [1]) true s s ∧ (s.bus.slots.get 2).enabled = true ∧
          (s.bus.slots.get 2).resetDeadline = none ∧ (s.bus.slots.get 2).fenced = false ∧ s.uplink.linkState ≠ .up) := by
  refine ⟨fun lock => presents_of _ _ _ _ rfl rfl rfl (by cases lock <;> rfl) (by decide +kernel), ?_,
    ⟨presents_of _ _ _ _ rfl rfl rfl rfl (by decide +kernel), by decide +kernel⟩,
    ⟨presents_of _ _ _ _ rfl rfl rfl rfl (by decide +kernel), by decide +kernel⟩⟩
  unfold PassesGates
  decide +kernel

/-- The card of slot 2 before a page map with this entry at 140. -/
def cardAt (e : MapEntry) : State :=
  (card .buffered).setPageMap { pageOf .none .buffered with entries := PageMap.reset.entries.set 140 e }

theorem witness_TranslationRefusesInOrder :
    (∀ e : MapEntry, Presents 2 addr (.read 8) false (cardAt e) (cardAt e) ∧ PassesGates 2 (cardAt e)) ∧
      (∀ e ∈ [MapEntry.reset, ⟨true, 0, .none, 8, .buffered, 0⟩, ⟨true, 0, .write, 4, .buffered, 0⟩,
          ⟨true, 0, .read, 4, .buffered, 0⟩],
        (cardAt e).pageMap.entries.get (entryIndex (cardAt e).pageMap addr) = e) ∧
      slotIn 8 2 = false ∧ slotIn 4 2 = true ∧ Access.write.permits false false = false ∧
      Access.read.permits false false = true := by
  refine ⟨fun e => ⟨presents_of _ _ _ _ rfl rfl rfl rfl (inWindow_addr rfl rfl), ⟨rfl, rfl, rfl, rfl⟩⟩, ?_⟩
  decide +kernel

/-- A presentation that is translated, in a state whose page map and bus are the card's. -/
theorem translates_of (mode : PageMode) (s : State) (x : Transfer) (lock : Bool) (hx : x.wellFormed = true)
    (hb : s.bus = (card mode).bus) (hm : s.pageMap = (card mode).pageMap) (hu : s.uplink.linkState = .up)
    (hl : if lock = true then s = s else exec (.lockRelease 2) s = .next s) :
    Translates 2 addr x lock (translation mode) s s := by
  refine ⟨presents_of s s x lock (by rw [hb]; rfl) (by rw [hb]; rfl) hx hl (by rw [hm]; exact inWindow_addr rfl rfl), ?_, ?_⟩
  · rw [PassesGates, hb]
    exact ⟨rfl, rfl, rfl, hu⟩
  · rw [hm]
    have all : ∀ w : Bool, translate (card mode).pageMap 2 addr w lock = .passed (translation mode) := by
      cases mode <;> cases lock <;> decide +kernel
    exact all _

/-- A buffered read of the example's address misses where every VALID line of its host line has been read past. -/
theorem misses_buffered {r : State} (hb : r.staging.buffering = true)
    (hf : findLine (fetchingBuffered 2 0x8695D200) r = none) (he : findLine (errorBuffered 2 0x8695D200) r = none)
    (hv : ∀ j : LineIx, (match lineAt j r with | .valid _ _ _ c => decide (52 < c) | _ => true) = true)
    (hu : ∀ j k : LineIx, validFor false 2 0x8695D200 r (lineAt j r) = true →
      validFor false 2 0x8695D200 r (lineAt k r) = true → j = k) :
    Misses false (translation .buffered) 8 ⟨false, 52, 64⟩ none r := by
  refine .inl ⟨rfl, rfl, hb, by decide +kernel, rfl, hf, he, ?_, hu⟩
  intro j b g fetched c hl _
  have h := hv j
  rw [hl] at h
  have ho : (translation .buffered).offset = 52 := by decide +kernel
  rw [ho]
  simpa using h

/-- The state of a miss in which these lines are VALID, of these slots, for host lines of their own. -/
def missing (mode : PageMode) (slots : List Slot) : State :=
  let s := (slots.zip allLines).foldl
    (fun s x => withLine x.2 (.valid ⟨x.1, BitVec.ofNat 48 (64 * x.2.val), 140, 7⟩ ⟨false, 0, 64⟩ (zeros 64) 60) s) (card mode)
  s.setStaging { s.staging with lru := (allLines.take slots.length).reverse }

theorem misses_missing (slots : List Slot) (h : slots = [] ∨ slots = [2, 2] ∨ slots = [3, 3, 3, 3, 3, 3, 3, 3]) :
    Misses false (translation .buffered) 8 ⟨false, 52, 64⟩ none (missing .buffered slots) ∧
      Translates 2 addr (.read 8) false (translation .buffered) (missing .buffered slots) (missing .buffered slots) ∧
      blockLength addr (.read 8) = 8 := by
  rcases h with rfl | rfl | rfl <;>
    exact ⟨misses_buffered rfl (by decide +kernel) (by decide +kernel) (by decide +kernel) (by decide +kernel),
      translates_of _ _ _ _ rfl rfl rfl rfl rfl, by decide +kernel⟩

/-- What a buffered read of the example's address that misses leaves of its lines. -/
def given (r : State) : State := gaveUp (givenUp false 2 0x8695D200 r) r

theorem witness_ReadMissFetchesLine :
    TakesLine 2 0 (given (missing .buffered [])) (given (missing .buffered [])) ∧
      lowestFreeTag (missing .buffered []) = some 0 ∧ untransmitted 2 (missing .buffered []) = false ∧
      (let u := given (missing .buffered [2, 2]);
        readLineCount 2 u = 2 ∧ TakesLine 2 1 u (reclaimed 1 u) ∧ untransmitted 2 (missing .buffered [2, 2]) = false) ∧
      (let u := given (missing .buffered [3, 3, 3, 3, 3, 3, 3, 3]);
        findLine Line.isFree u = none ∧ TakesLine 2 7 u (reclaimed 7 u) ∧
          untransmitted 2 (missing .buffered [3, 3, 3, 3, 3, 3, 3, 3]) = false) := by
  refine ⟨.inl ⟨by decide +kernel, by decide +kernel, rfl⟩, by decide +kernel, by decide +kernel,
    ⟨by decide +kernel, .inr (.inr ⟨by decide +kernel, 1, by decide +kernel, rfl, by decide +kernel⟩), by decide +kernel⟩,
    ⟨by decide +kernel, .inr (.inl ⟨by decide +kernel, by decide +kernel, ⟨[6, 5, 4, 3, 2, 1, 0], by decide +kernel⟩, rfl⟩),
      by decide +kernel⟩⟩

theorem witness_ReadMissFetchesLine_waits :
    (let s := withLine 7 (.gathering ⟨2, 0, 0, 0⟩ zeroData 1 4) (card .buffered);
      Translates 2 addr (.read 8) false (translation .buffered) s s ∧
        Misses false (translation .buffered) 8 ⟨false, 52, 64⟩ none s ∧ untransmitted 2 s = true) ∧
      (let s := (card .buffered).setTracker { up.tracker with tags := Table.fill 16 ⟨.waiting (request .exclBegin 0), 0⟩ };
        Translates 2 addr (.read 8) false (translation .buffered) s s ∧
          Misses false (translation .buffered) 8 ⟨false, 52, 64⟩ none s ∧ NoLineOrTag 2 (given s)) := by
  refine ⟨⟨translates_of _ _ _ _ (by decide +kernel) rfl rfl rfl rfl,
      misses_buffered rfl (by decide +kernel) (by decide +kernel) (by decide +kernel) (by decide +kernel), by decide +kernel⟩,
    ⟨translates_of _ _ _ _ (by decide +kernel) rfl rfl rfl rfl,
      misses_buffered rfl (by decide +kernel) (by decide +kernel) (by decide +kernel) (by decide +kernel),
      .inl (by decide +kernel)⟩⟩

theorem witness_ReadMissFetchesLine_backward_and_direct :
    (let s := withLine 0 (.valid binding ⟨false, 0, 64⟩ (zeros 64) 60) (card .buffered);
      Translates 2 addr (.read 8) false (translation .buffered) s s ∧
        Misses false (translation .buffered) 8 ⟨false, 52, 64⟩ none s ∧ lineAt 0 (given s) = .free) ∧
      (let s := card .direct;
        Translates 2 addr (.read 8) false (translation .direct) s s ∧
          Misses true (translation .direct) 8 ⟨true, 52, 60⟩ (some 52) s) := by
  refine ⟨⟨translates_of _ _ _ _ (by decide +kernel) rfl rfl rfl rfl,
      misses_buffered rfl (by decide +kernel) (by decide +kernel) (by decide +kernel) (by decide +kernel), by decide +kernel⟩,
    ⟨translates_of _ _ _ _ (by decide +kernel) rfl rfl rfl rfl,
      .inr ⟨rfl, .inl rfl, by decide +kernel, by decide +kernel, by decide +kernel, by decide +kernel, by decide +kernel⟩⟩⟩

/-- Line 0 is VALID for the example's host line, and read-ahead is as given. -/
def validLine (ahead : Bool) : State :=
  let s := withLine 0 (.valid binding ⟨false, 0, 64⟩ (zeros 64) 52) (card .buffered)
  s.setStaging { s.staging with readAhead := ahead }

theorem witness_ReadHitConsumesLine :
    (∀ ahead : Bool, Translates 2 addr (.read 8) false (translation .buffered) (validLine ahead) (validLine ahead)) ∧
      (∀ ahead ∈ [false, true],
        findLine (validFor false 2 (translation .buffered).hostLine (validLine ahead)) (validLine ahead) = some 0 ∧
          lineAt 0 (validLine ahead) = .valid binding ⟨false, 0, 64⟩ (zeros 64) 52 ∧ 52 ≤ (translation .buffered).offset) ∧
      (let u := fun ahead => setLine 0 (.valid binding ⟨false, 0, 64⟩ (zeros 64) 60) (validLine ahead);
        NoReadAhead 2 (translation .buffered).hostLine 60 (u false) ∧ ¬ NoReadAhead 2 (translation .buffered).hostLine 60 (u true) ∧
          findLine Line.isFree (u true) = some 1 ∧ lowestFreeTag (u true) = some 0) ∧
      (translation .buffered).offset + blockLength addr (.read 8) = 60 ∧
      (translation .buffered).offset + blockLength addr (.read 12) = 64 := by
  refine ⟨fun ahead => translates_of _ _ _ _ rfl rfl rfl rfl rfl, ?_⟩
  unfold NoReadAhead
  decide +kernel

/-- The slot has a GATHERING line for another host line, and read-ahead is on. -/
theorem witness_ReadHitConsumesLine_untransmitted :
    let s := withLine 7 (.gathering ⟨2, 0, 0, 0⟩ zeroData 1 4) (validLine true)
    Translates 2 addr (.read 8) false (translation .buffered) s s ∧
      findLine (validFor false 2 (translation .buffered).hostLine s) s = some 0 ∧
      lineAt 0 s = .valid binding ⟨false, 0, 64⟩ (zeros 64) 52 ∧
      untransmitted 2 (setLine 0 (.valid binding ⟨false, 0, 64⟩ (zeros 64) 60) s) = true :=
  ⟨translates_of _ _ _ _ (by decide +kernel) rfl rfl rfl rfl, by decide +kernel⟩

/-- Each other condition of read-ahead fails alone: 31 bytes consumed, the last host line of a page, two read lines, no FREE
line, no FREE tag, a read line for the next host line. -/
theorem witness_ReadHitConsumesLine_noReadAhead :
    NoReadAhead 2 0x8695D200 31 (validLine true) ∧ NoReadAhead 2 0x8695FFC0 60 (validLine true) ∧
      (let s := withLine 1 (.fetching ⟨2, 0, 0, 0⟩ ⟨false, 0, 64⟩ none true ⟨3, 1⟩) (validLine true);
        readLineCount 2 s = 2 ∧ NoReadAhead 2 0x8695D200 60 s) ∧
      (let s := (validLine true).setStaging { (validLine true).staging with lines := Table.fill 8 (.closed ⟨3, 0, 0, 0⟩ zeroData 1) };
        findLine Line.isFree s = none ∧ NoReadAhead 2 0x8695D200 60 s) ∧
      (let s := (validLine true).setTracker { up.tracker with tags := Table.fill 16 ⟨.waiting (request .exclBegin 0), 0⟩ };
        lowestFreeTag s = none ∧ NoReadAhead 2 0x8695D200 60 s) ∧
      NoReadAhead 2 0x8695D1C0 60 (validLine true) := by
  refine ⟨?_, ?_, ⟨by decide +kernel, ?_⟩, ⟨by decide +kernel, ?_⟩, ⟨by decide +kernel, ?_⟩, ?_⟩
  all_goals
    unfold NoReadAhead
    decide +kernel

theorem witness_ReadHitConsumesLine_direct :
    let s := withLine 4 (.valid binding ⟨true, 52, 60⟩ (zeros 8) 52) (card .direct)
    Translates 2 addr (.read 8) false (translation .direct) s s ∧
      LineAnswers (translation .direct) 8 4 (.complete (zeros 8)) s := by
  refine ⟨translates_of _ _ _ _ (by decide +kernel) rfl rfl rfl rfl,
    .inl ⟨.inl rfl, by decide +kernel, binding, ⟨true, 52, 60⟩, zeros 8, 52, by decide +kernel, by decide +kernel⟩⟩

theorem witness_ReadHitConsumesLine_errors :
    (let s := withLine 4 (.error binding ⟨false, 52, 64⟩ ⟨3, 1⟩) (card .buffered);
      Translates 2 addr (.read 8) false (translation .buffered) s s ∧ LineAnswers (translation .buffered) 8 4 .abort s) ∧
      (let s := withLine 4 (.error binding ⟨false, 52, 64⟩ ⟨3, 1⟩) (card .direct);
        Translates 2 addr (.read 8) false (translation .direct) s s ∧ LineAnswers (translation .direct) 8 4 .abort s) := by
  refine ⟨⟨translates_of _ _ _ _ (by decide +kernel) rfl rfl rfl rfl,
      .inr (.inl ⟨rfl, rfl, by decide +kernel, by decide +kernel, by decide +kernel, rfl⟩)⟩,
    ⟨translates_of _ _ _ _ (by decide +kernel) rfl rfl rfl rfl,
      .inr (.inr ⟨.inl rfl, by decide +kernel, by decide +kernel, by decide +kernel, rfl⟩)⟩⟩

theorem witness_ReadHitConsumesLine_awaits :
    (let s := withLine 4 (.fetching binding ⟨false, 52, 64⟩ none false ⟨3, 1⟩) (card .buffered);
      Translates 2 addr (.read 8) false (translation .buffered) s s ∧ AwaitsFetch (translation .buffered) 8 s) ∧
      (let s := withLine 4 (.fetching binding ⟨true, 52, 60⟩ (some 52) false ⟨3, 1⟩) (card .direct);
        Translates 2 addr (.read 8) false (translation .direct) s s ∧ AwaitsFetch (translation .direct) 8 s) := by
  refine ⟨⟨translates_of _ _ _ _ (by decide +kernel) rfl rfl rfl rfl, .inl ⟨rfl, rfl, by decide +kernel, by decide +kernel⟩⟩,
    ⟨translates_of _ _ _ _ (by decide +kernel) rfl rfl rfl rfl, .inr ⟨.inl rfl, by decide +kernel, by decide +kernel⟩⟩⟩

theorem witness_UnlockedWritesAreAccepted :
    (let s := (card .buffered).setTracker { up.tracker with writeHold := true };
      Translates 2 addr (.write (zeros 64)) false (translation .buffered) s s ∧ s.tracker.writeHold = true ∧
        s.staging.buffering = true) ∧
      (let s := withLine 1 (.gathering binding zeroData (byteSpan 0 52) 4) (card .buffered);
        Translates 2 addr (.write (zeros 12)) false (translation .buffered) s s ∧ s.tracker.writeHold = false ∧
          findLine (gatheringFor 2 (translation .buffered).hostLine s) s = some 1 ∧
          lineAt 1 s = .gathering binding zeroData (byteSpan 0 52) 4 ∧
          byteSpan 0 52 ||| byteSpan (translation .buffered).offset (min 12 (64 - addr.toNat % 64)) = BitVec.allOnes 64 ∧
          byteSpan 0 51 ||| byteSpan (translation .buffered).offset (min 12 (64 - addr.toNat % 64)) ≠ BitVec.allOnes 64) := by
  refine ⟨⟨translates_of _ _ _ _ (by decide +kernel) rfl rfl rfl rfl, by decide +kernel⟩,
    ⟨translates_of _ _ _ _ (by decide +kernel) rfl rfl rfl rfl, by decide +kernel⟩⟩

/-- What a write of slot 2 to the example's host line leaves of its read lines. -/
def written (r : State) : State := gaveUp (Line.ofSlotLine 2 0x8695D200) r

/-- A write binds a new line: the lowest FREE one, its own freed read line among them, or the least recent of all; another
line of the slot is GATHERING. -/
theorem witness_UnlockedWritesAreAccepted_binds :
    (let s := withLine 1 (.gathering ⟨2, 0, 140, 7⟩ zeroData 1 4)
        (withLine 0 (.valid binding ⟨false, 0, 64⟩ (zeros 64) 0) (card .buffered));
      Translates 2 addr (.write (zeros 63)) false (translation .buffered) s s ∧ s.tracker.writeHold = false ∧
        findLine (gatheringFor 2 0x8695D200 s) s = none ∧ ¬ WriteLineStands 2 0x8695D200 (written s) ∧
        TakesWriteLine 0 (written s)) ∧
      (let s := missing .buffered [3, 3, 3, 3, 3, 3, 3, 3];
        Translates 2 addr (.write [1]) false (translation .buffered) s s ∧ s.tracker.writeHold = false ∧
          findLine (gatheringFor 2 0x8695D200 s) s = none ∧ ¬ WriteLineStands 2 0x8695D200 (written s) ∧
          findLine Line.isFree (written s) = none ∧ TakesWriteLine 7 (written s)) := by
  refine ⟨⟨translates_of _ _ _ _ (by decide +kernel) rfl rfl rfl rfl, by decide +kernel, by decide +kernel,
      by unfold WriteLineStands; decide +kernel, .inl (by decide +kernel)⟩,
    ⟨translates_of _ _ _ _ (by decide +kernel) rfl rfl rfl rfl, by decide +kernel, by decide +kernel,
      by unfold WriteLineStands; decide +kernel, by decide +kernel,
      .inr ⟨by decide +kernel, [6, 5, 4, 3, 2, 1, 0], by decide +kernel⟩⟩⟩

/-- A write waits for a closed line of its host line, and for a line while every line is CLOSED. -/
theorem witness_UnlockedWritesAreAccepted_waits :
    (let s := withLine 6 (.closed { binding with epoch := 6 } zeroData 1) (card .buffered);
      Translates 2 addr (.write [1]) false (translation .buffered) s s ∧ s.tracker.writeHold = false ∧
        findLine (gatheringFor 2 0x8695D200 s) s = none ∧ WriteLineStands 2 0x8695D200 (written s)) ∧
      (let s := (card .buffered).setStaging { Staging.reset with lines := Table.fill 8 (.closed ⟨3, 0, 0, 0⟩ zeroData 1) };
        Translates 2 addr (.write [1]) false (translation .buffered) s s ∧ s.tracker.writeHold = false ∧
          findLine (gatheringFor 2 0x8695D200 s) s = none ∧ ¬ WriteLineStands 2 0x8695D200 (written s) ∧
          NoWriteLine (written s)) := by
  refine ⟨⟨translates_of _ _ _ _ (by decide +kernel) rfl rfl rfl rfl, ?_⟩,
    ⟨translates_of _ _ _ _ (by decide +kernel) rfl rfl rfl rfl, ?_⟩⟩
  all_goals
    unfold WriteLineStands
    try unfold NoWriteLine
    decide +kernel

/-- A write of all 64 bytes of the example's host line. -/
theorem witness_UnlockedWritesAreAccepted_full :
    let s := card .buffered
    let tr : Translation := ⟨2, 0x8695D200, 140, 7, .buffered⟩
    Translates 2 0x40231200 (.write (zeros 64)) false tr s s ∧ TakesWriteLine 0 (written s) ∧
      blockLength 0x40231200 (.write (zeros 64)) = 64 ∧ byteSpan tr.offset 64 = BitVec.allOnes 64 ∧
      byteSpan tr.offset 63 ≠ BitVec.allOnes 64 := by
  refine ⟨⟨⟨rfl, ?_, by decide +kernel, rfl, by decide +kernel⟩, ⟨rfl, rfl, rfl, rfl⟩, by decide +kernel⟩,
    .inl (by decide +kernel), by decide +kernel⟩
  intro b n h
  cases h

/-- A direct write under write hold; with 15 entries; behind a line that it closes, a closed line, a full queue, and an
EXCL_END that waits. -/
theorem witness_UnlockedWritesAreAccepted_direct :
    (let s := (card .direct).setTracker { up.tracker with writeHold := true };
      Translates 2 addr (.write (zeros 64)) false (translation .direct) s s ∧ s.tracker.writeHold = true) ∧
      (let s := withPosted 15 (card .direct);
        Translates 2 addr (.write (zeros 64)) false (translation .direct) s s ∧ (translation .direct).mode = .direct ∧
          s.tracker.writeHold = false ∧ ¬ WriteMustWait 2 s) ∧
      (let s := withLine 1 (.gathering binding zeroData 1 4) (card .direct);
        Translates 2 addr (.write [1]) false (translation .direct) s s ∧ s.tracker.writeHold = false ∧ WriteMustWait 2 s) ∧
      WriteMustWait 2 busy ∧ WriteMustWait 2 (withPosted 16 (card .direct)) ∧
      WriteMustWait 2 (withEpisode { episode .opened with slot := 3, endPending := true } (card .direct)) := by
  refine ⟨⟨translates_of _ _ _ _ (by decide +kernel) rfl rfl rfl rfl, by decide +kernel⟩,
    ⟨translates_of _ _ _ _ (by decide +kernel) rfl rfl rfl rfl, by decide +kernel, by decide +kernel, ?_⟩,
    ⟨translates_of _ _ _ _ (by decide +kernel) rfl rfl rfl rfl, by decide +kernel, ?_⟩, ?_⟩
  all_goals
    unfold WriteMustWait
    decide +kernel

theorem witness_LockedAccessBeginsEpisode :
    (let s := card .buffered;
      Translates 2 addr (.read 4) true (translation .buffered) s s ∧ s.locks.episode = none ∧
        slotIn s.locks.abortNext 2 = false ∧ untransmitted 2 s = false ∧ lowestFreeTag s = some 0) ∧
      (let s := withPosted 1 (card .direct);
        Translates 2 addr (.write [1]) true (translation .direct) s s ∧ untransmitted 2 s = true) ∧
      (let s := (card .buffered).setLocks { LockUnit.reset with abortNext := 4 };
        Translates 2 addr (.read 4) true (translation .buffered) s s ∧ slotIn s.locks.abortNext 2 = true) := by
  refine ⟨⟨translates_of _ _ _ _ (by decide +kernel) rfl rfl rfl rfl, by decide +kernel⟩,
    ⟨translates_of _ _ _ _ (by decide +kernel) rfl rfl rfl rfl, by decide +kernel⟩,
    ⟨translates_of _ _ _ _ (by decide +kernel) rfl rfl rfl rfl, by decide +kernel⟩⟩

/-- A begun episode finds no FREE tag; a later access finds the episode REQUESTED, or ABANDONING. -/
theorem witness_LockedAccessBeginsEpisode_waits :
    (let s := (card .buffered).setTracker { up.tracker with tags := Table.fill 16 ⟨.waiting (request .exclBegin 0), 0⟩ };
      Translates 2 addr (.read 4) true (translation .buffered) s s ∧ s.locks.episode = none ∧
        slotIn s.locks.abortNext 2 = false ∧ untransmitted 2 s = false ∧ lowestFreeTag s = none) ∧
      ∀ st : EpisodeState,
        Translates 2 addr (.read 4) true (translation .buffered) (withEpisode (episode st) (card .buffered))
            (withEpisode (episode st) (card .buffered)) ∧
          (withEpisode (episode st) (card .buffered)).locks.episode = some (episode st) ∧ (episode st).slot = 2 ∧
          (episode st).state = st :=
  ⟨⟨translates_of _ _ _ _ (by decide +kernel) rfl rfl rfl rfl, by decide +kernel⟩,
    fun _ => ⟨translates_of _ _ _ _ rfl rfl rfl rfl rfl, rfl, rfl, rfl⟩⟩

/-- The held result of a 4-byte locked read of the example's address. -/
def held : HeldRead where
  hostAddress := 0x8695D234
  offset := 52
  length := 4
  tag := ⟨0, 1⟩
  result := .data [1, 2, 3, 4]

theorem witness_OpenEpisodeServesLockedAccess :
    (let s := withEpisode { episode .opened with heldRead := some held } (card .buffered);
      Translates 2 addr (.read 4) true (translation .buffered) s s ∧
        s.locks.episode = some { episode .opened with heldRead := some held } ∧
        held.hostAddress = (translation .buffered).hostAddress ∧ held.offset = (translation .buffered).offset ∧
        held.length = blockLength addr (.read 4)) ∧
      (let s := withEpisode (episode .opened) (card .buffered);
        Translates 2 addr (.read 4) true (translation .buffered) s s ∧ s.locks.episode = some (episode .opened) ∧
          hasPosted 2 s = false ∧ lowestFreeTag s = some 0 ∧
          Translates 2 addr (.write [5]) true (translation .buffered) s s ∧ s.tracker.writeHold = false ∧
          ¬ WriteMustWait 2 s) := by
  refine ⟨⟨translates_of _ _ _ _ (by decide +kernel) rfl rfl rfl rfl, by decide +kernel⟩,
    ⟨translates_of _ _ _ _ rfl rfl rfl rfl rfl, by decide +kernel, by decide +kernel, by decide +kernel,
      translates_of _ _ _ _ rfl rfl rfl rfl rfl, by decide +kernel, by unfold WriteMustWait; decide +kernel⟩⟩

/-- The rows that answer RETRY: an EXCL_END or a result is awaited; a write also under write hold and behind a closed line. -/
theorem witness_OpenEpisodeServesLockedAccess_retries :
    (∀ e ∈ [{ episode .opened with endPending := true },
          { episode .opened with heldRead := some { held with result := .waiting } }],
        Translates 2 addr (.read 4) true (translation .buffered) (withEpisode e (card .buffered)) (withEpisode e (card .buffered)) ∧
          Translates 2 addr (.write [1]) true (translation .buffered) (withEpisode e (card .buffered))
            (withEpisode e (card .buffered))) ∧
      (let s := withEpisode (episode .opened) ((card .buffered).setTracker { up.tracker with writeHold := true });
        Translates 2 addr (.write [1]) true (translation .buffered) s s ∧ s.tracker.writeHold = true) ∧
      (let s := withEpisode (episode .opened) (withLine 1 (.gathering binding zeroData 1 4) (card .buffered));
        Translates 2 addr (.write [1]) true (translation .buffered) s s ∧ WriteMustWait 2 s) := by
  refine ⟨fun e _ => ⟨translates_of _ _ _ _ rfl rfl rfl rfl rfl, translates_of _ _ _ _ rfl rfl rfl rfl rfl⟩,
    ⟨translates_of _ _ _ _ rfl rfl rfl rfl rfl, rfl⟩, ⟨translates_of _ _ _ _ rfl rfl rfl rfl rfl, ?_⟩⟩
  unfold WriteMustWait
  decide +kernel

/-- A read with the result of another read held: it fetches, or waits for a posted entry, or for a tag. -/
theorem witness_OpenEpisodeServesLockedAccess_another :
    let e : Episode := { episode .opened with heldRead := some held }
    let s := withEpisode e (card .buffered)
    HeldReadIsPast e (translation .buffered) 8 ∧ ¬ HeldReadIsPast e (translation .buffered) 4 ∧
      HeldReadIsPast (episode .opened) (translation .buffered) 4 ∧ blockLength addr (.read 8) = 8 ∧
      Translates 2 addr (.read 8) true (translation .buffered) s s ∧ hasPosted 2 s = false ∧ lowestFreeTag s = some 0 ∧
      hasPosted 2 (withPosted 1 s) = true ∧
      lowestFreeTag (s.setTracker { up.tracker with tags := Table.fill 16 ⟨.waiting (request .exclBegin 0), 0⟩ }) = none := by
  refine ⟨?_, ?_, ?_, by decide +kernel, translates_of _ _ _ _ rfl rfl rfl rfl rfl, by decide +kernel⟩
  · intro h hh
    cases hh
    decide +kernel
  · intro h
    exact (h held rfl).2 (by decide +kernel)
  · intro h hh
    cases hh

theorem witness_OpenEpisodeServesLockedAccess_error :
    let h : HeldRead := { held with result := .error }
    let s := withEpisode { episode .opened with heldRead := some h } (card .buffered)
    Translates 2 addr (.read 4) true (translation .buffered) s s ∧ h.hostAddress = (translation .buffered).hostAddress ∧
      h.offset = (translation .buffered).offset ∧ h.length = blockLength addr (.read 4) ∧ h.result = .error :=
  ⟨translates_of _ _ _ _ (by decide +kernel) rfl rfl rfl rfl, by decide +kernel⟩

/-- No command executes, so none waits for the episode. -/
theorem noneWaits_of (s : State) (h : s.command.executing = none) : NoneWaitsForEpisode s := by
  intro x hx
  rw [h] at hx
  cases hx

/-- The read timeout and an in-order MEM_DATA end tag 3, generation 1. -/
theorem tagEnds_tag3 (p : Purpose) (s : State) (h : s.uplink = up.uplink) (hn : s.now = 0)
    (hg : (s.tracker.tags.get 3).generation = 1) :
    (∀ n, TagEnds (.readTimeoutExpiry 3) 3 (request p n) 40000 (.error .readTimeout) 40000 s) ∧
      TagEnds (.memDataReceived 0 63 [0x43, 0, 0, 0, 1, 2, 3, 4]) 3 (request p 4) 40000 (.data [1, 2, 3, 4]) 0 s ∧
      TagEnds (.memDataReceived 0 63 [0x43, 0, 0, 0]) 3 (request p 4) 40000 (.error .completionMismatch) 0 s ∧
      TagEnds (.memDataReceived 0 63 [0x43, 0, 0, 0]) 3 (request p 0) 40000 (.data []) 0 s ∧
      TagEnds (.memDataReceived 0 63 [0x43, 2, 0, 0]) 3 (request p 0) 40000 (.error .hostError) 0 s := by
  have o : InOrder 0 63 s := by
    unfold InOrder
    rw [h]
    decide +kernel
  have g : tagGeneration 0x43 = (s.tracker.tags.get 3).generation := by
    rw [hg]
    decide
  refine ⟨fun n => .inl ⟨rfl, rfl, by rw [hn]; rfl⟩,
    .inr ⟨0, 63, 0x43, 0, 0, 0, [1, 2, 3, 4], o, by decide, rfl, by decide, g, hn.symm, .inr (.inr ⟨rfl, rfl, rfl⟩)⟩,
    .inr ⟨0, 63, 0x43, 0, 0, 0, [], o, by decide, rfl, by decide, g, hn.symm, .inr (.inl ⟨rfl, by simp [request], rfl⟩)⟩,
    .inr ⟨0, 63, 0x43, 0, 0, 0, [], o, by decide, rfl, by decide, g, hn.symm, .inr (.inr ⟨rfl, rfl, rfl⟩)⟩,
    .inr ⟨0, 63, 0x43, 2, 0, 0, [], o, by decide, rfl, by decide, g, hn.symm, .inl ⟨by decide, rfl⟩⟩⟩

theorem witness_OpenEpisodeServesLockedAccess_results :
    ∀ st : EpisodeState, ∀ n ∈ [15, 16],
      let e : Episode := { episode st with heldRead := some { held with tag := ⟨3, 1⟩, result := .waiting } }
      let s := withPosted n (withTag .lockedRead 4 (withEpisode e up))
      (s.tracker.tags.get 3).state = .outstanding (request .lockedRead 4) 40000 ∧ (s.tracker.tags.get 3).generation = 1 ∧
        TagEnds (.readTimeoutExpiry 3) 3 (request .lockedRead 4) 40000 (.error .readTimeout) 40000 s ∧
        s.locks.episode = some e ∧ e.state = st ∧ NoneWaitsForEpisode s ∧ e.endPending = false ∧ e.beginTag = none ∧
        s.tracker.posted.length = n := by
  intro st n hn e s
  have ends := tagEnds_tag3 .lockedRead s rfl rfl rfl
  refine ⟨rfl, rfl, ends.1 4, rfl, rfl, noneWaits_of _ rfl, rfl, rfl, ?_⟩
  exact List.length_map _ |>.trans List.length_range

/-! ### The episode's end and the limits -/

theorem witness_LockReleaseEndsEpisode :
    (let s := withEpisode (episode .requested) up;
      s.locks.episode = some (episode .requested) ∧ NoneWaitsForEpisode s) ∧
      (let s := withPosted 15 (withEpisode (episode .opened) up);
        s.locks.episode = some (episode .opened) ∧ NoneWaitsForEpisode s ∧ s.tracker.posted.length < 16) ∧
      (let s := withPosted 16 (withEpisode (episode .opened) up);
        s.locks.episode = some (episode .opened) ∧ 16 ≤ s.tracker.posted.length) ∧
      (let s := withPosted 15 (withEpisode { episode .opened with endPending := true } up);
        s.locks.episode = some { episode .opened with endPending := true } ∧ NoneWaitsForEpisode s ∧
          s.tracker.posted.length < 16) ∧
      (let s := withEpisode (episode .opened) (card .buffered);
        Presents 2 addr (.read 4) false s (after (.lockRelease 2) s) ∧
          exec (.lockRelease 2) s = .next (after (.lockRelease 2) s) ∧ (after (.lockRelease 2) s).locks.episode = none) := by
  refine ⟨⟨rfl, noneWaits_of _ rfl⟩, ⟨rfl, noneWaits_of _ rfl, by decide +kernel⟩, ⟨rfl, by decide +kernel⟩,
    ⟨rfl, noneWaits_of _ rfl, by decide +kernel⟩,
    ⟨presents_of _ _ _ _ rfl rfl rfl rfl (by decide +kernel), rfl, by decide +kernel⟩⟩

theorem witness_LockLimitsExpire :
    (∀ st ∈ [EpisodeState.requested, .opened],
      let s := withEpisode (episode st) up
      s.locks.episode = some (episode st) ∧ (episode st).limit = some 100 ∧ (episode st).state ≠ .abandoning ∧
        (episode st).endPending = false ∧ s.tracker.posted.length < 16) ∧
      (∀ st, NoneWaitsForEpisode (withEpisode (episode st) up)) ∧
      { held with result := .waiting }.result = HeldResult.waiting ∧
      (withLock (.held 9) up).locks.hostLock = .held 9 ∧
      (masterPresenting (mastering (access true .requesting)) = false ∧
        (mastering (access true .requesting)).bus.owner = .master) ∧
      masterPresenting (mastering (access true .presenting)) = true := by
  refine ⟨by decide +kernel, fun st => noneWaits_of _ rfl, by decide +kernel⟩

/-! ### Grants and the bus -/

theorem witness_ArbiterGrants :
    (let s := withLock (.held 9) slotEnabled;
      s.bus.owner = .none ∧ lockHeld s = true ∧ accessRequests s = false) ∧
      (let s := withEpisode (episode .opened) slotEnabled;
        s.locks.episode = some (episode .opened) ∧ lockHeld s = false ∧ (slotIn 0x3B 2 && eligible 2 s) = false ∧
          (slotIn 4 2 && eligible 2 s) = true) ∧
      (let s := slotEnabled;
        s.locks.hostLock ≠ .acquiring ∧ accessRequests s = false ∧ s.locks.episode = none ∧
          (∀ y, (slotIn 0 y && eligible y s) = false) ∧ (slotIn 0x3F 2 && eligible 2 s) = true ∧
          (∀ y : Slot, (y.val + 5 - s.bus.pointer.val) % 6 < ((2 : Slot).val + 5 - s.bus.pointer.val) % 6 →
            (slotIn 0x3F y && eligible y s) = false)) ∧
      (let s := withLock .acquiring (executing 0x0A [] .bus up);
        s.bus.owner = .none ∧ s.locks.hostLock = .acquiring ∧ s.locks.episode = none ∧
          s.command.executing = some ⟨7, 0x0A, [], .bus⟩) ∧
      (let s := (mastering (access false .requesting)).setBus SlotBus.reset;
        s.bus.owner = .none ∧ s.master.access = some (access false .requesting) ∧ s.locks.hostLock ≠ .acquiring ∧
          s.locks.episode = none) := by decide +kernel

/-- Slot 2 owns the bus in this phase. -/
def owning (p : SlotPhase) : State :=
  slotEnabled.setBus { slotEnabled.bus with owner := .slot 2, phase := p, deadline := some 4, claimants := [2] }

theorem witness_SlotOwnershipEnds :
    ((owning .granted).bus.owner = .slot 2 ∧ (owning .granted).bus.phase = .granted ∧
        (owning .granted).bus.deadline = some 4 ∧ (Transfer.read 64).wellFormed = true ∧
        (owning .granted).locks.episode = none ∧ inWindow (owning .granted).pageMap addr = false) ∧
      (let s := owning (.awaiting (.memory addr) 8);
        s.bus.owner = .slot 2 ∧ s.bus.phase = .awaiting (.memory addr) 8 ∧ s.bus.deadline = some 4 ∧
          s.bus.claimants ≠ []) ∧
      (1 ≤ 7 ∧ 7 < 8) ∧ slotEnabled.bus.claimants = [] ∧ claimants .identity none slotEnabled = [] ∧
      claimants .io none slotEnabled = [2] ∧ claimants .identity (some 2) slotEnabled = [2] := by decide +kernel

/-- An unlocked transaction that the bridge does not claim, in an episode. -/
theorem witness_SlotOwnershipEnds_inEpisode :
    let s := withEpisode (episode .opened) (owning .granted)
    let q := after (.lockRelease 2) s
    s.bus.owner = .slot 2 ∧ s.bus.phase = .granted ∧ exec (.lockRelease 2) s = .next q ∧
      inWindow q.pageMap addr = false ∧ q.locks.episode = none ∧ q.tracker.posted.length = 1 :=
  ⟨rfl, rfl, rfl, by decide +kernel⟩

/-- A presentation whose command a link loss has discarded. -/
theorem witness_MasterFollowsAnswers_orphaned :
    ∀ w ∈ [false, true],
      let s := (mastering (access w .presenting)).setCommand CommandUnit.reset
      s.master.access = some (access w .presenting) ∧ s.command.executing = none ∧ s.bus.owner = .master ∧
        (∀ x ∈ [Response.retry, .abort], answerFits (access w .presenting) x [] s = true) ∧
        answerFits (access w .presenting) .complete [1, 2, 3, 4] s = true ∧ s.bus.deadline = some 4 := by decide +kernel

theorem witness_MasterFollowsAnswers :
    (∀ w ∈ [false, true],
      let s := mastering (access w .presenting)
      s.master.access = some (access w .presenting) ∧ (access w .presenting).phase = .presenting ∧
        (access w .presenting).write = w ∧ s.command.executing = some ⟨7, 0x08, [1, 0, 4, 0, 0x20, 0, 0x10, 0], .bus⟩ ∧
        s.bus.owner = .master ∧ s.bus.deadline = some 4 ∧ answerFits (access w .presenting) .retry [] s = true ∧
        answerFits (access w .presenting) .abort [] s = true ∧
        (access w .presenting).retryCount + 1 ≠ (access w .presenting).retryLimit) ∧
      (let s := mastering (access true .presenting);
        answerFits (access true .presenting) .complete [] s = true ∧
          answerFits (access true .presenting) (.partly 3) [] s = true) ∧
      (let s := mastering (access false .presenting);
        answerFits (access false .presenting) .complete [1, 2, 3, 4] s = true ∧
          answerFits (access false .presenting) (.partly 1) [1] s = true) ∧
      (let d : Downstream := { access true .presenting with retryCount := 255, bytesDone := 2 };
        answerFits d .retry [] (mastering d) = true ∧ d.retryCount + 1 = d.retryLimit ∧ d.write = true ∧ 0 < d.bytesDone) := by
  decide +kernel

/-! ### Interrupt lines, expiries and completions -/

theorem witness_InterruptLinesRaiseAndWithdraw :
    Raisable 2 (withEvent EventRecord.reset true slotEnabled) ∧ ¬ Raisable 2 (withEvent EventRecord.reset true up) ∧
      (let s := withEvent { EventRecord.reset with state := .pending true, resend := true } true slotEnabled;
        eligible 2 s = true ∧ (eventAt 2 s).state = .pending true) ∧
      eligible 2 up = false := by
  unfold Raisable
  decide +kernel

theorem witness_ResetsComplete :
    (let s := setSlot 2 { SlotRecord.reset with enabled := true, resetDeadline := some 200 } up;
      (s.bus.slots.get 2).resetDeadline = some 200) ∧
      (up.setCommand { CommandUnit.reset with resetting := true }).command.resetting = true := by decide +kernel

/-- The slot drains of slot 2 are these. -/
def withDrains (d : SlotDrains) (s : State) : State :=
  s.setStaging { s.staging with slotDrains := s.staging.slotDrains.set 2 d }

theorem witness_DrainsAreReported :
    (let s := withDrains ⟨.idle, .complete, .idle⟩ (withEvent { EventRecord.reset with state := .pending false } true up);
      (s.staging.slotDrains.get 2).event = .complete ∧ (s.staging.slotDrains.get 2).episode ≠ .complete ∧
        (eventAt 2 s).state = .pending false) ∧
      (let s := withDrains ⟨.idle, .idle, .complete⟩ (withEpisode (episode .requested) up);
        s.locks.episode = some (episode .requested) ∧ lowestFreeTag s = some 0 ∧
          (s.staging.slotDrains.get 2).episode = .complete ∧ (s.staging.slotDrains.get 2).event ≠ .complete) ∧
      ((withEpisode (episode .requested) up).staging.slotDrains.get 2).episode = .idle ∧
      (let s := (executing 0x04 (zeros 8) .drain up).setStaging { Staging.reset with globalDrain := some .transmitted };
        s.staging.globalDrain = some .transmitted ∧ s.command.executing = some ⟨7, 0x04, zeros 8, .drain⟩ ∧
          s.master.access = none) ∧
      (let s := (mastering (access false .draining)).setStaging { Staging.reset with globalDrain := some .transmitted };
        s.staging.globalDrain = some .transmitted ∧ s.master.access = some (access false .draining) ∧
          s.command.executing = some ⟨7, 0x08, [1, 0, 4, 0, 0x20, 0, 0x10, 0], .bus⟩) ∧
      (let s := (executing 0x03 [0, 0, 2, 0] .barrier up).setStaging { Staging.reset with mapBarrier := some .transmitted };
        s.staging.mapBarrier = some .transmitted ∧ s.command.executing = some ⟨7, 0x03, [0, 0, 2, 0], .barrier⟩) := by
  decide +kernel

theorem witness_ClosedLinesMoveInOrder :
    lineAt 7 (withLine 7 (.gathering binding zeroData 1 4) up) = .gathering binding zeroData 1 4 ∧
      (let s := withPosted 15 (busy.setPending []);
        s.staging.closedOrder = [3] ∧ lineAt 3 s = .closed binding zeroData 1 ∧ s.tracker.posted.length < 16 ∧
          endWaiting s = false) ∧
      16 ≤ (withPosted 16 busy).tracker.posted.length ∧
      endWaiting (withEpisode { episode .opened with endPending := true } busy) = true ∧ up.staging.closedOrder = [] := by
  decide +kernel

/-! ### Completions and commands from the host -/

/-- Tag 3, generation 1, fetches 12 bytes for line 5. -/
def fetching : State :=
  withTag (.lineFetch 5) 12 (withLine 5 (.fetching binding ⟨false, 52, 64⟩ none false ⟨3, 1⟩) up)

theorem witness_FetchResultsReachLines :
    (InOrder 0 63 fetching ∧ (zeros 64).length ≤ 64 ∧
        ∀ i : TagIx, i.val = tagIndex 0x83 →
          (fetching.tracker.tags.get i).generation ≠ tagGeneration 0x83) ∧
      (fetching.tracker.tags.get 3).state = .outstanding (request (.lineFetch 5) 12) 40000 ∧
      (request (.lineFetch 5) 12).purpose = .lineFetch 5 ∧
      lineAt 5 fetching = .fetching binding ⟨false, 52, 64⟩ none false ⟨3, 1⟩ ∧ tagIndex 0x43 = 3 ∧
      tagGeneration 0x43 = (fetching.tracker.tags.get 3).generation ∧ (zeros 12).length = 12 ∧ (zeros 0).length ≠ 12 := by
  unfold InOrder
  decide +kernel

theorem witness_FetchResultsReachLines_ends :
    TagEnds (.readTimeoutExpiry 3) 3 (request (.lineFetch 5) 12) 40000 (.error .readTimeout) 40000 fetching ∧
      TagEnds (.memDataReceived 0 63 ([0x43, 0, 0, 0] ++ zeros 12)) 3 (request (.lineFetch 5) 12) 40000 (.data (zeros 12)) 0
        fetching :=
  ⟨.inl ⟨rfl, rfl, rfl⟩,
    .inr ⟨0, 63, 0x43, 0, 0, 0, zeros 12, ⟨rfl, rfl, Nat.zero_le _⟩, by decide, rfl, rfl, rfl, rfl,
      .inr (.inr ⟨rfl, rfl, rfl⟩)⟩⟩

/-- Line 5 alone is not FREE in `fetching`, and tag 3 alone is busy. -/
theorem lineAt_fetching (i : LineIx) :
    lineAt i fetching = if i = 5 then .fetching binding ⟨false, 52, 64⟩ none false ⟨3, 1⟩ else .free := by
  revert i
  decide +kernel

theorem tags_fetching (k : TagIx) :
    (fetching.tracker.tags.get k).state = if k = 3 then .outstanding (request (.lineFetch 5) 12) 40000 else .free := by
  revert k
  decide +kernel

theorem witness_StepKeepsRequestQueue_fetches :
    LinesOrdered fetching ∧ FetchesTied fetching ∧ ∃ t, step (fetching.setPending [.readTimeoutExpiry 3]) = .next t := by
  refine ⟨by unfold LinesOrdered; decide +kernel, ⟨?_, ?_⟩, ⟨_, rfl⟩⟩
  · intro i b f readStart stale g h
    rw [lineAt_fetching] at h
    split at h
    · next hi =>
      cases h
      subst hi
      exact ⟨by decide +kernel, .inr ⟨40000, by decide +kernel⟩⟩
    · cases h
  · intro k q i hk hq
    unfold BusyWith at hk
    rw [tags_fetching] at hk
    split at hk
    · next e =>
      subst e
      rcases hk with hk | ⟨d, hk⟩
      · cases hk
      · cases hk
        cases hq
        exact ⟨binding, ⟨false, 52, 64⟩, none, false, by decide +kernel⟩
    · rcases hk with hk | ⟨d, hk⟩ <;> cases hk

theorem witness_ExclBeginResultDecides :
    ∀ st : EpisodeState, ∀ n ∈ [15, 16],
      let e : Episode := { episode st with beginQueued := true, beginTag := some ⟨3, 1⟩ }
      let s := withPosted n (withTag .exclBegin 0 (withEpisode e up))
      (s.tracker.tags.get 3).state = .outstanding (request .exclBegin 0) 40000 ∧ (request .exclBegin 0).length = 0 ∧
        TagEnds (.readTimeoutExpiry 3) 3 (request .exclBegin 0) 40000 (.error .readTimeout) 40000 s ∧
        TagEnds (.memDataReceived 0 63 [0x43, 0, 0, 0]) 3 (request .exclBegin 0) 40000 (.data []) 0 s ∧
        s.locks.episode = some e ∧ e.state = st ∧ e.beginTag = some ⟨3, (s.tracker.tags.get 3).generation⟩ ∧
        NoneWaitsForEpisode s ∧ s.tracker.posted.length = n := by
  intro st n hn e s
  have ends := tagEnds_tag3 .exclBegin s rfl rfl rfl
  refine ⟨rfl, rfl, ends.1 0, ends.2.2.2.1, rfl, rfl, rfl, noneWaits_of _ rfl, ?_⟩
  exact List.length_map _ |>.trans List.length_range

theorem witness_SequencedFramesAreCompared :
    (replaying none).uplink.linkState = .up ∧ ReplayNumbered (replaying none) ∧
      (replaying none).uplink.replay.length ≤ 16 ∧ (zeros 136).length ≤ 136 ∧ 4 ≤ (zeros 4).length ∧
      InOrder 0 61 (replaying none) ∧ (1 - (0 : SeqNo)).toNat = 1 ∧ (31 - (0 : SeqNo)).toNat = 31 ∧
      32 ≤ (32 - (0 : SeqNo)).toNat ∧ 32 ≤ (63 - (0 : SeqNo)).toNat := by
  refine ⟨rfl, ⟨⟨rfl, rfl, rfl⟩, fun h => absurd rfl h⟩, ?_⟩
  unfold InOrder
  decide +kernel

/-- A Command Unit with so many entries and replies. -/
def commands (entries replies : Nat) : State :=
  up.setCommand
    { CommandUnit.reset with
      queue := (List.range entries).map (fun k => ⟨BitVec.ofNat 16 (k + 100), 0x0E, [], false⟩)
      replies := List.replicate replies (.notice .resetDone) }

theorem witness_CommandsAreJudgedOnArrival :
    InOrder 0 63 (commands 7 6) ∧ (zeros 3).length < 4 ∧ 8 ≤ (commands 8 0).command.queue.length ∧ InOrder 0 63 (commands 8 0) ∧
      ((commands 7 6).command.queue.length < 8 ∧ (commands 7 6).command.replies.length ≤ 6) ∧
      tagInUse 106 (commands 7 6).command = true ∧ tagInUse 107 (commands 7 6).command = false ∧ knownCode 0x0F = false ∧
      (knownCode 0x0B = true ∧ argumentsPass up.pageMap 0x0B [0] = false) ∧
      (InOrder 0 63 (commands 7 7) ∧ 7 ≤ (commands 7 7).command.replies.length ∧
        parseCommand 0x0C [5, 9, 0, 0] = some (.eventAck 5 9)) ∧
      parseCommand 0x0D [6, 0, 0, 0] = some (.statusQuery .faults) ∧ argumentsPass up.pageMap 0x0E [] = true ∧
      parseCommand 0x0E [] = some .bridgeReset := by
  unfold InOrder
  decide +kernel

theorem witness_EventAckMatchesRecord :
    (let s := withEvent ⟨.sent true, 41, true, false⟩ true slotEnabled;
      InOrder 0 63 s ∧ s.command.queue.length < 8 ∧ s.command.replies.length ≤ 6 ∧ tagInUse 5 s.command = false ∧
        (2 : Byte).toNat = (2 : Slot).val ∧ (eventAt 2 s).state = .sent true ∧ (eventAt 2 s).seq = 41 ∧
        (eventAt 2 s).resend = true ∧
        Raisable 2 (withEvent ⟨.idle, 42, false, false⟩ true slotEnabled) ∧
        ¬ Raisable 2 (withEvent ⟨.idle, 42, false, false⟩ false slotEnabled)) ∧
      ((eventAt 2 up).state ≠ .sent true ∧ (eventAt 2 up).resend = false) := by
  unfold InOrder Raisable
  decide +kernel

/-- An entry with Held yes, tag 9, between two of tag 7, and six frames that wait. -/
def holding (code : Byte) (args : List Byte) : State :=
  up.setCommand { CommandUnit.reset with
    queue := [entry 0x0E [], ⟨9, code, args, true⟩, entry 0x0E []], replies := List.replicate 6 (.notice .resetDone) }

theorem witness_HeldEntryIsTaken :
    (∀ x ∈ [((0x0F : Byte), []), (0x0E, []), (0x0B, [0]), (0x0D, [6, 0, 0, 0]), (0x0C, [2, 9, 0, 0])],
        (holding x.1 x.2).command.queue = [entry 0x0E []] ++ ⟨9, x.1, x.2, true⟩ :: [entry 0x0E []] ∧
          (∀ y ∈ [entry 0x0E []], y.held = false) ∧ (holding x.1 x.2).command.replies.length ≤ 6 ∧
          tagInUse 9 (holding x.1 x.2).command = false) ∧
      knownCode 0x0F = false ∧ (argumentsPass up.pageMap 0x0E [] = true ∧ parseCommand 0x0E [] = some .bridgeReset) ∧
      (knownCode 0x0B = true ∧ argumentsPass up.pageMap 0x0B [0] = false) ∧
      parseCommand 0x0D [6, 0, 0, 0] = some (.statusQuery .faults) ∧
      parseCommand 0x0C [2, 9, 0, 0] = some (.eventAck 2 9) := by
  decide +kernel

theorem witness_HeldEntryIsTaken_tagInUse :
    let s := up.setCommand { CommandUnit.reset with queue := [entry 0x0E [], { entry 0x0D [6, 0, 0, 0] with held := true }] }
    s.command.queue = [entry 0x0E []] ++ { entry 0x0D [6, 0, 0, 0] with held := true } :: [] ∧
      tagInUse (entry 0x0D [6, 0, 0, 0]).tag s.command = true := by
  decide +kernel

theorem witness_HeldEntryIsTaken_acknowledges :
    (let s := withEvent ⟨.sent true, 9, true, false⟩ true (holding 0x0C [2, 9, 0, 0]);
      Acknowledges 2 9 s ∧ ¬ Acknowledges 2 8 s ∧
        ¬ Raisable 2 (withEvent ⟨.idle, 10, false, false⟩ true (holding 0x0C [2, 9, 0, 0]))) ∧
      ¬ Acknowledges 2 9 (holding 0x0C [2, 9, 0, 0]) ∧
      Raisable 2 (withEvent ⟨.idle, 10, false, false⟩ true slotEnabled) := by
  refine ⟨⟨⟨⟨true, rfl⟩, rfl, rfl⟩, fun h => absurd h.2.1 (by decide +kernel), fun h => absurd h.2.2.1 (by decide +kernel)⟩,
    fun h => absurd h.2.2 (by decide +kernel), ?_⟩
  unfold Raisable
  decide +kernel

end Sys2Proof.Tests
end

section
/-! The page map: what a translation passes and refuses (R6, R7), and where an address of the window lands in host memory
(R4, R77). -/

namespace Sys2Proof.Machine

/-! ### The outcome of a translation -/

/-- The result record that R8 gives an access which every check of R6 lets through. -/
def resultRecord (m : PageMap) (slot : Slot) (a : CardAddr) : Translation :=
  let e := m.entries.get (entryIndex m a)
  { slot := slot, hostAddress := BitVec.ofNat 48 (e.hostFrame.toNat * 16384 + pageOffset m a), mapIndex := entryIndex m a,
    epoch := e.epoch, mode := e.mode }

/-- The three checks of R6 on the entry of an access. -/
def Grants (e : MapEntry) (slot : Slot) (write lock : Bool) : Prop :=
  e.valid = true ∧ slotIn e.slots slot = true ∧ e.access.permits write lock = true

theorem translate_of_slotIn {m : PageMap} {slot : Slot} {a : CardAddr} (write lock : Bool)
    (hvalid : (m.entries.get (entryIndex m a)).valid = true)
    (hslot : slotIn (m.entries.get (entryIndex m a)).slots slot = true) :
    translate m slot a write lock =
      if (m.entries.get (entryIndex m a)).access.permits write lock then .passed (resultRecord m slot a)
      else .refused .accessDenied := by
  cases hpermits : (m.entries.get (entryIndex m a)).access.permits write lock <;>
    simp [translate, resultRecord, hvalid, hslot, hpermits]

theorem translate_eq_passed_iff {m : PageMap} {slot : Slot} {a : CardAddr} {write lock : Bool} {tr : Translation} :
    translate m slot a write lock = .passed tr ↔
      Grants (m.entries.get (entryIndex m a)) slot write lock ∧ tr = resultRecord m slot a := by
  by_cases hvalid : (m.entries.get (entryIndex m a)).valid = true
  · by_cases hslot : slotIn (m.entries.get (entryIndex m a)).slots slot = true
    · rw [translate_of_slotIn write lock hvalid hslot]
      cases hpermits : (m.entries.get (entryIndex m a)).access.permits write lock <;>
        simp [Grants, hvalid, hslot, hpermits, eq_comm]
    · simp [translate, Grants, hvalid, hslot]
  · simp [translate, Grants, hvalid]

/-! ### The host address -/

theorem pageOffset_lt (m : PageMap) (a : CardAddr) : pageOffset m a < 16384 := Nat.mod_lt _ (by decide)

/-- The largest HostFrame and page offset stay within 46 bits, so the 48-bit host address never wraps. -/
theorem resultRecord_hostAddress_toNat (m : PageMap) (slot : Slot) (a : CardAddr) :
    (resultRecord m slot a).hostAddress.toNat =
      (m.entries.get (entryIndex m a)).hostFrame.toNat * 16384 + pageOffset m a := by
  have hframe := (m.entries.get (entryIndex m a)).hostFrame.isLt
  have hoffset := pageOffset_lt m a
  exact Nat.mod_eq_of_lt (by omega)

theorem resultRecord_hostAddress_le (m : PageMap) (slot : Slot) (a : CardAddr) :
    (resultRecord m slot a).hostAddress.toNat ≤ 0x3FFFFFFFFFFF := by
  have hframe := (m.entries.get (entryIndex m a)).hostFrame.isLt
  have hoffset := pageOffset_lt m a
  rw [resultRecord_hostAddress_toNat]
  omega

theorem hostLineOf_toNat (h : HostAddr) : (hostLineOf h).toNat = h.toNat / 64 * 64 := by
  have hshift : hostLineOf h = (h >>> 6) <<< 6 := (BitVec.shiftLeft_ushiftRight (x := h) (n := 6)).symm
  have hbound := h.isLt
  rw [hshift, BitVec.toNat_shiftLeft, BitVec.toNat_ushiftRight, Nat.shiftRight_eq_div_pow, Nat.shiftLeft_eq]
  omega

theorem Translation.hostLine_toNat (t : Translation) : t.hostLine.toNat = t.hostAddress.toNat / 64 * 64 :=
  hostLineOf_toNat t.hostAddress

theorem inWindow_iff {m : PageMap} {a : CardAddr} :
    inWindow m a = true ↔ m.on = true ∧ m.base.toNat ≤ a.toNat ∧ a.toNat ≤ m.base.toNat + 0x7FFFFF := by
  simp [inWindow, and_assoc]

/-- The window holds 512 pages, so the entry index of R4 never wraps there. -/
theorem entryIndex_val_of_inWindow {m : PageMap} {a : CardAddr} (h : inWindow m a = true) :
    (entryIndex m a).val = (a.toNat - m.base.toNat) / 16384 := by
  obtain ⟨_, _, hlast⟩ := inWindow_iff.mp h
  exact Nat.mod_eq_of_lt (by omega)

/-! ### One 64-byte block -/

/-- Every byte of one presentation lies in the block of its first byte (R77). -/
theorem sameBlock_of_lt_blockLength {a b : CardAddr} {x : Transfer} (hab : a.toNat ≤ b.toNat)
    (hb : b.toNat < a.toNat + blockLength a x) : b.toNat / 64 = a.toNat / 64 := by
  have hblock : blockLength a x ≤ 64 - a.toNat % 64 := Nat.min_le_right _ _
  omega

/-- A transfer that is cut short is cut at the block boundary (R77). -/
theorem blockLength_ends_block {a : CardAddr} {x : Transfer} (h : blockLength a x < x.length) :
    (a.toNat + blockLength a x) % 64 = 0 := by
  unfold blockLength at h ⊢
  omega

section SameBlock

variable {m : PageMap} {a b : CardAddr}

theorem inWindow_of_sameBlock (hbase : m.base.toNat % 0x800000 = 0) (hblock : b.toNat / 64 = a.toNat / 64)
    (h : inWindow m a = true) : inWindow m b = true := by
  obtain ⟨hon, hfirst, hlast⟩ := inWindow_iff.mp h
  exact inWindow_iff.mpr ⟨hon, by omega, by omega⟩

theorem entryIndex_of_sameBlock (hbase : m.base.toNat % 0x800000 = 0) (hblock : b.toNat / 64 = a.toNat / 64)
    (h : inWindow m a = true) : entryIndex m b = entryIndex m a := by
  apply Fin.ext
  rw [entryIndex_val_of_inWindow h, entryIndex_val_of_inWindow (inWindow_of_sameBlock hbase hblock h)]
  omega

theorem pageOffset_of_sameBlock (hbase : m.base.toNat % 0x800000 = 0) (hblock : b.toNat / 64 = a.toNat / 64)
    (h : inWindow m a = true) (hab : a.toNat ≤ b.toNat) :
    pageOffset m b = pageOffset m a + (b.toNat - a.toNat) := by
  obtain ⟨_, hfirst, _⟩ := inWindow_iff.mp h
  unfold pageOffset
  omega

/-- A page starts at a multiple of 64 on either side, so a block of the window becomes one host line, byte for byte. -/
theorem resultRecord_of_sameBlock (slot : Slot) (hbase : m.base.toNat % 0x800000 = 0)
    (hblock : b.toNat / 64 = a.toNat / 64) (h : inWindow m a = true) (hab : a.toNat ≤ b.toNat) :
    (resultRecord m slot b).hostLine = (resultRecord m slot a).hostLine ∧
      (resultRecord m slot b).offset = (resultRecord m slot a).offset + (b.toNat - a.toNat) := by
  have hshift : (resultRecord m slot b).hostAddress.toNat =
      (resultRecord m slot a).hostAddress.toNat + (b.toNat - a.toNat) := by
    rw [resultRecord_hostAddress_toNat, resultRecord_hostAddress_toNat, entryIndex_of_sameBlock hbase hblock h,
      pageOffset_of_sameBlock hbase hblock h hab, Nat.add_assoc]
  have hphase : (resultRecord m slot a).hostAddress.toNat % 64 = a.toNat % 64 := by
    obtain ⟨_, hfirst, _⟩ := inWindow_iff.mp h
    rw [resultRecord_hostAddress_toNat, pageOffset]
    omega
  constructor
  · apply BitVec.eq_of_toNat_eq
    rw [Translation.hostLine_toNat, Translation.hostLine_toNat]
    omega
  · unfold Translation.offset
    omega

end SameBlock

/-! ### The parts of the statement about host addresses -/

theorem translate_passed_lands {m : PageMap} {slot : Slot} {a : CardAddr} {write lock : Bool} {tr : Translation}
    (hwin : inWindow m a = true) (hpass : translate m slot a write lock = .passed tr) :
    tr.slot = slot ∧ tr.mapIndex.val = (a.toNat - m.base.toNat) / 16384 ∧
      tr.hostAddress.toNat =
        (m.entries.get tr.mapIndex).hostFrame.toNat * 16384 + (a.toNat - m.base.toNat) % 16384 ∧
      tr.epoch = (m.entries.get tr.mapIndex).epoch ∧ tr.mode = (m.entries.get tr.mapIndex).mode ∧
      tr.offset = tr.hostAddress.toNat % 64 ∧ tr.hostLine.toNat = tr.hostAddress.toNat / 64 * 64 ∧
      tr.hostAddress.toNat ≤ 0x3FFFFFFFFFFF := by
  obtain ⟨_, rfl⟩ := translate_eq_passed_iff.mp hpass
  exact ⟨rfl, entryIndex_val_of_inWindow hwin, resultRecord_hostAddress_toNat m slot a, rfl, rfl, rfl,
    Translation.hostLine_toNat _, resultRecord_hostAddress_le m slot a⟩

/-- A map whose window starts at 0 and whose every entry leads slot 0 to the last host page. -/
def lastPageMap : PageMap := ⟨true, 0, Table.fill 512 ⟨true, 0xFFFFFFFF, .readWrite, 1, .buffered, 0⟩⟩

theorem lastPageMap_reaches_last_byte :
    inWindow lastPageMap 0x3FFF = true ∧
      translate lastPageMap 0 0x3FFF false false = .passed (resultRecord lastPageMap 0 0x3FFF) ∧
      (resultRecord lastPageMap 0 0x3FFF).hostAddress = 0x3FFFFFFFFFFF := by
  refine ⟨by decide, translate_eq_passed_iff.mpr ⟨?_, rfl⟩, ?_⟩
  · simp [Grants, lastPageMap, slotIn, Access.permits]
  · simp [resultRecord, lastPageMap, pageOffset]

theorem translate_of_sameBlock {m : PageMap} {slot : Slot} {a b : CardAddr} {write lock : Bool} {tr : Translation}
    (hbase : m.base.toNat % 0x800000 = 0) (hwin : inWindow m a = true)
    (hpass : translate m slot a write lock = .passed tr) (hab : a.toNat ≤ b.toNat)
    (hblock : b.toNat / 64 = a.toNat / 64) :
    ∃ u, translate m slot b write lock = .passed u ∧ u.mapIndex = tr.mapIndex ∧ u.hostLine = tr.hostLine ∧
      u.offset = tr.offset + (b.toNat - a.toNat) := by
  obtain ⟨hgrants, rfl⟩ := translate_eq_passed_iff.mp hpass
  have hindex : entryIndex m b = entryIndex m a := entryIndex_of_sameBlock hbase hblock hwin
  exact ⟨resultRecord m slot b, translate_eq_passed_iff.mpr ⟨hindex ▸ hgrants, rfl⟩, hindex,
    resultRecord_of_sameBlock slot hbase hblock hwin hab⟩

theorem respond_complete_answer_of_lt (slot : Slot) {length k : Nat} (data : List Byte) (s : State) (h : k < length) :
    (respond slot length k (.complete data) s).bus.answer = some ⟨.partly k, data⟩ := by
  simp [respond, h, continueSlot, drive]

/-- The example of R4: page 8Ch of a window at 40000000h, mapped to HostFrame 00021A57h. -/
theorem translate_example {m : PageMap} {slot : Slot} {write lock : Bool} {tr : Translation} (hbase : m.base = 0x40000000)
    (hframe : (m.entries.get 140).hostFrame = 0x21A57)
    (hpass : translate m slot 0x40231234 write lock = .passed tr) :
    tr.mapIndex = 140 ∧ tr.hostAddress = 0x8695D234 ∧ tr.hostLine = 0x8695D200 ∧ tr.offset = 0x34 := by
  obtain ⟨_, rfl⟩ := translate_eq_passed_iff.mp hpass
  have hindex : entryIndex m 0x40231234 = 140 := by simp [entryIndex, hbase]
  have haddress : (resultRecord m slot 0x40231234).hostAddress = 0x8695D234 := by
    apply BitVec.eq_of_toNat_eq
    rw [resultRecord_hostAddress_toNat, hindex, hframe, pageOffset, hbase]
    rfl
  refine ⟨hindex, haddress, ?_, ?_⟩
  · rw [Translation.hostLine, haddress]
    rfl
  · rw [Translation.offset, haddress]
    rfl

end Sys2Proof.Machine

namespace Sys2Proof

open Sys2Proof.Machine

/-- Settles O22: on such an entry the only check of R6 left is Access, read off row by row of R7. -/
theorem accessPermitsByDirectionAndLock : Obligations.AccessPermitsByDirectionAndLock := by
  intro m slot a write lock hvalid hslot
  rw [translate_of_slotIn write lock hvalid hslot]
  cases (m.entries.get (entryIndex m a)).access with
  | none => simp [Access.permits]
  | read => cases write <;> cases lock <;> simp [Access.permits]
  | write => cases write <;> cases lock <;> simp [Access.permits]
  | readWrite => simp [Access.permits]

/-- Settles O23, part by part; a presentation's bytes share their block, and a block shares its entry and host line. -/
theorem translationGivesHostAddress : Obligations.TranslationGivesHostAddress := by
  refine ⟨?lands, ?reached, ?oneLine, ?boundary, ?exampleOfR4⟩
  case lands => exact fun _ _ _ _ _ _ hwin hpass => translate_passed_lands hwin hpass
  case reached => exact ⟨lastPageMap, 0x3FFF, _, lastPageMap_reaches_last_byte⟩
  case oneLine =>
    intro m slot a b x write lock tr hbase hwin hpass hab hb
    have hblock : b.toNat / 64 = a.toNat / 64 := sameBlock_of_lt_blockLength hab hb
    exact ⟨hblock, inWindow_of_sameBlock hbase hblock hwin, translate_of_sameBlock hbase hwin hpass hab hblock⟩
  case boundary =>
    exact fun slot a x data s hcut => ⟨blockLength_ends_block hcut, respond_complete_answer_of_lt slot data s hcut⟩
  case exampleOfR4 => exact fun _ _ _ _ _ hbase hframe hpass => translate_example hbase hframe hpass

end Sys2Proof
end

section
/-! The steps of the block as functions of the state: every command has a next state; what the start of an ordered command
gives; and which blocks each command can touch. -/

namespace Sys2Proof.Machine

/-! ### The next state -/

/-- The next state that the meaning of a command gives; `exec_eq_next` says that there always is one. -/
def after (i : Instr) (s : State) : State :=
  match exec i s with
  | .next t => t
  | .fault _ => s
  | .refused _ => s

theorem exec_eq_next (i : Instr) (s : State) : exec i s = .next (after i s) := by
  cases i <;> rfl

theorem eq_after_of_exec {i : Instr} {s t : State} (h : exec i s = .next t) : t = after i s := by
  rw [exec_eq_next] at h
  exact (Host.Outcome.next.inj h).symm

/-- A step lets time pass, or runs the command at the front of the queue. -/
theorem step_cases {s t : State} (h : step s = .next t) :
    (s.pending = [] ∧ t = s.setNow (s.now + 1)) ∨
      ∃ i rest, s.pending = i :: rest ∧ t = after i (s.setPending rest) := by
  unfold step at h
  split at h
  · next hp => exact .inl ⟨hp, (Host.Outcome.next.inj h).symm⟩
  · next i rest hp => exact .inr ⟨i, rest, hp, eq_after_of_exec h⟩

/-- Induction once for all: what every command keeps, and what neither the time nor the queue of commands decides, is kept
by every step. -/
theorem step_keeps {P Q : State → Prop} (idle : ∀ s n, P s → Q (s.setNow n)) (queue : ∀ s q, P s → P (s.setPending q))
    (command : ∀ i s, P s → Q (after i s)) {s t : State} (hs : P s) (h : step s = .next t) : Q t := by
  obtain ⟨_, rfl⟩ | ⟨i, rest, _, rfl⟩ := step_cases h
  · exact idle s _ hs
  · exact command i _ (queue s rest hs)

/-! ### Frames -/

/-- A frame is one equation for each block that is not listed. -/
theorem onlyChanges_iff {changed : List Block} {s t : State} :
    OnlyChanges changed s t ↔
      (.pageMap ∈ changed ∨ t.pageMap = s.pageMap) ∧ (.staging ∈ changed ∨ t.staging = s.staging) ∧
      (.tracker ∈ changed ∨ t.tracker = s.tracker) ∧ (.bus ∈ changed ∨ t.bus = s.bus) ∧
      (.locks ∈ changed ∨ t.locks = s.locks) ∧ (.master ∈ changed ∨ t.master = s.master) ∧
      (.events ∈ changed ∨ t.events = s.events) ∧ (.faults ∈ changed ∨ t.faults = s.faults) ∧
      (.command ∈ changed ∨ t.command = s.command) ∧ (.uplink ∈ changed ∨ t.uplink = s.uplink) ∧
      (.time ∈ changed ∨ t.now = s.now) ∧ t.pending = s.pending := by
  constructor
  · rintro ⟨kept, queue⟩
    have each : ∀ b : Block, b ∈ changed ∨ b.kept s t := fun b => (Classical.em (b ∈ changed)).imp_right (kept b)
    exact ⟨each .pageMap, each .staging, each .tracker, each .bus, each .locks, each .master, each .events, each .faults,
      each .command, each .uplink, each .time, queue⟩
  · rintro ⟨h1, h2, h3, h4, h5, h6, h7, h8, h9, h10, h11, queue⟩
    refine ⟨fun b hb => ?_, queue⟩
    cases b with
    | pageMap => exact h1.resolve_left hb
    | staging => exact h2.resolve_left hb
    | tracker => exact h3.resolve_left hb
    | bus => exact h4.resolve_left hb
    | locks => exact h5.resolve_left hb
    | master => exact h6.resolve_left hb
    | events => exact h7.resolve_left hb
    | faults => exact h8.resolve_left hb
    | command => exact h9.resolve_left hb
    | uplink => exact h10.resolve_left hb
    | time => exact h11.resolve_left hb

theorem onlyChanges_refl (changed : List Block) (s : State) : OnlyChanges changed s s := by
  simp [onlyChanges_iff]

theorem onlyChanges_trans {c d e : List Block} {s t u : State} (h : OnlyChanges c s t) (g : OnlyChanges d t u)
    (hc : c ⊆ e) (hd : d ⊆ e) : OnlyChanges e s u := by
  obtain ⟨hk, hp⟩ := h
  obtain ⟨gk, gp⟩ := g
  refine ⟨fun b hb => ?_, gp.trans hp⟩
  have h1 := hk b (fun m => hb (hc m))
  have h2 := gk b (fun m => hb (hd m))
  cases b <;> exact h2.trans h1

theorem onlyChanges_mono {c d : List Block} {s t : State} (h : OnlyChanges c s t) (hc : c ⊆ d) : OnlyChanges d s t :=
  ⟨fun b hb => h.1 b (fun m => hb (hc m)), h.2⟩

/-! ### Ordered commands -/

/-- An execution row changes nothing, or starts the command at the head of the ordered sequence (R158). -/
theorem runHead_cases (start : Command → Option (State → State)) (s : State) :
    runHead start s = s ∨
      ∃ e rest c f, Heads s e rest c ∧ start c = some f ∧ runHead start s = f (beginHead e rest s) := by
  unfold runHead
  split
  · exact .inl rfl
  · next e rest hq =>
    split
    · next ready =>
      split
      · next f hf =>
        obtain ⟨c, hc, hf⟩ := Option.bind_eq_some_iff.mp hf
        simp only [readyToStart, Bool.and_eq_true, Option.isNone_iff_eq_none, Bool.not_eq_true', decide_eq_true_eq,
          List.all_eq_true] at ready
        obtain ⟨⟨⟨⟨he, hr⟩, hl⟩, ha⟩, hh⟩ := ready
        exact .inr ⟨e, rest, c, f, ⟨hq, hc, he, hr, hl, ha, hh⟩, hf, rfl⟩
      · exact .inl rfl
    · exact .inl rfl

/-- A property that the start of every fitting command gives holds after the execution row (R158). -/
theorem runHead_ind {start : Command → Option (State → State)} {P : State → Prop} {s : State} (same : P s)
    (started : ∀ e rest c f, Heads s e rest c → start c = some f → P (f (beginHead e rest s))) : P (runHead start s) := by
  obtain h | ⟨e, rest, c, f, hh, hf, h⟩ := runHead_cases start s
  · rw [h]
    exact same
  · rw [h]
    exact started e rest c f hh hf

/-- The same for SLOT_CONTROL (R86). -/
theorem slotCommand_ind {action : SlotAction} {act : Slot → State → State} {P : State → Prop} {s : State} (same : P s)
    (started : ∀ e rest slot, Heads s e rest (.slotControl slot action) →
      P (complete .ok [] (act slot (beginHead e rest s)))) : P (slotCommand action act s) := by
  refine runHead_ind same fun e rest c f hh hf => ?_
  cases c with
  | slotControl slot a =>
    by_cases ha : a = action
    · subst ha
      simp only [if_true, Option.some.injEq] at hf
      exact hf ▸ started e rest slot hh
    · simp [ha] at hf
  | _ => simp at hf

/-- The same for SLOT_CONTROL RESET, which a disabled slot refuses (R91). -/
theorem slotReset_ind {P : State → Prop} {s : State} (same : P s)
    (started : ∀ e rest slot, Heads s e rest (.slotControl slot .reset) →
      P (if (slotAt slot (beginHead e rest s)).enabled then
          complete .ok [] (beginSlotReset slot (beginHead e rest s))
        else complete .slotDisabled [] (beginHead e rest s))) : P (after .slotControlReset s) := by
  refine runHead_ind same fun e rest c f hh hf => ?_
  cases c with
  | slotControl slot a => cases a <;> simp only [reduceCtorEq, Option.some.injEq] at hf; exact hf ▸ started e rest slot hh
  | _ => simp at hf

end Sys2Proof.Machine
end

section
/-! Which blocks each command can touch. -/

namespace Sys2Proof.Machine

/-! ### The blocks that the uplink's operations touch -/

/-- A fault of a kind that does not fence touches the Fault Unit alone (R143). -/
theorem takeFault_changes {r : FaultReport} (s : State) (h : r.kind.fencing = false) :
    OnlyChanges [.faults] s (takeFault r s) := by
  have hf : autofences r s = false := by
    unfold autofences
    split <;> simp [h]
  simp [onlyChanges_iff, takeFault_unfenced hf]

theorem offerPending_frame (s : State) : OnlyChanges [.events] s (offerPending s) := by
  unfold offerPending
  generalize allSlots = slots
  induction slots generalizing s with
  | nil => exact onlyChanges_refl _ _
  | cons x rest ih =>
    rw [List.foldl_cons]
    refine onlyChanges_trans (c := [.events]) ?_ (ih _) (List.Subset.refl _) (List.Subset.refl _)
    split <;> simp [onlyChanges_iff]

/-- What a link loss can touch: every block but the Page Map (R171). -/
def lossBlocks : List Block := [.staging, .tracker, .bus, .locks, .master, .events, .faults, .command, .uplink]

theorem linkLoss_changes (training reset : Bool) (s : State) : OnlyChanges lossBlocks s (linkLoss training reset s) := by
  simp [onlyChanges_iff, lossBlocks]

theorem enterUp_changes (f : InitFields) (s : State) : OnlyChanges [.uplink, .events] s (enterUp f s) := by
  unfold enterUp
  exact onlyChanges_trans (c := [.uplink]) (by simp [onlyChanges_iff]) (offerPending_frame _) (by simp) (by simp)

theorem initFrame_changes (f : InitFields) (s : State) : OnlyChanges lossBlocks s (initFrame f s) := by
  unfold initFrame
  split
  · split <;> simp [onlyChanges_iff, lossBlocks]
  · split
    · exact onlyChanges_mono (enterUp_changes f s) (by simp [lossBlocks])
    · exact onlyChanges_refl _ s
  · exact linkLoss_changes _ _ s

theorem replayDue_changes (s : State) : OnlyChanges lossBlocks s (replayDue s) := by
  unfold replayDue
  split
  · simp [onlyChanges_iff, lossBlocks]
  · exact linkLoss_changes _ _ s

theorem replayIfAny_changes (s : State) : OnlyChanges lossBlocks s (replayIfAny s) := by
  unfold replayIfAny
  split
  · exact onlyChanges_refl _ s
  · exact replayDue_changes s

theorem applyNak_changes (n : SeqNo) (s : State) : OnlyChanges lossBlocks s (applyNak n s) := by
  unfold applyNak
  split
  · split
    · exact replayIfAny_changes s
    · exact onlyChanges_refl _ s
  · exact onlyChanges_trans (c := [.uplink]) (by simp [onlyChanges_iff]) (replayIfAny_changes _) (by simp [lossBlocks])
      (List.Subset.refl _)

theorem grantCredits_changes (r q : Byte) (s : State) : OnlyChanges [.uplink, .faults] s (grantCredits r q s) := by
  unfold grantCredits
  dsimp only
  split
  · exact onlyChanges_trans (c := [.uplink]) (by simp [onlyChanges_iff]) (takeFault_changes _ rfl) (by simp) (by simp)
  · simp [onlyChanges_iff]

/-- A frame whose length its kind does not have touches the Uplink Port alone, any other what its rule touches (R172). -/
theorem receive_changes {k : HostKind} {p : List Byte} {rule : State → State} {changed : List Block} {s : State}
    (h : OnlyChanges changed s (rule s)) (hu : .uplink ∈ changed) : OnlyChanges changed s (receive k p rule s) := by
  unfold receive
  split
  · exact h
  · exact onlyChanges_mono (c := [.uplink]) (by simp [onlyChanges_iff]) (by simpa using hu)

theorem whenUp_changes {rule : State → State} {changed : List Block} {s : State} (h : OnlyChanges changed s (rule s)) :
    OnlyChanges changed s (whenUp rule s) := by
  unfold whenUp
  split
  · exact h
  · exact onlyChanges_refl _ s

theorem sequenced_changes {seq ackSeq : SeqNo} {deliver : State → State} {changed : List Block} {s : State}
    (h : ∀ t, OnlyChanges changed t (deliver t)) (hu : .uplink ∈ changed) :
    OnlyChanges changed s (sequenced seq ackSeq deliver s) := by
  have only : ∀ t, OnlyChanges [.uplink] s t → OnlyChanges changed s t :=
    fun t ht => onlyChanges_mono ht (by simpa using hu)
  unfold sequenced
  dsimp only
  split
  · exact onlyChanges_trans (only (acceptFrame (applyAck ackSeq s)) (by simp [onlyChanges_iff])) (h _)
      (List.Subset.refl _) (List.Subset.refl _)
  · split
    · exact only _ (by simp [onlyChanges_iff])
    · exact only _ (by simp [onlyChanges_iff])

/-! ### The blocks that arriving commands touch -/

theorem acknowledge_changes (slot : Slot) (s : State) : OnlyChanges [.events, .staging] s (acknowledge slot s) := by
  simp [onlyChanges_iff]

theorem answerArrival_changes (f : CommandFrame) (c : ResultCode) (b : List Byte) (s : State) :
    OnlyChanges [.command, .uplink] s (answerArrival f c b s) := by
  simp [onlyChanges_iff]

theorem answer_changes (f : CommandFrame) (v : Verdict) (s : State) :
    OnlyChanges [.command, .uplink, .events, .staging] s (answer f v s) := by
  have plain : ∀ c b, OnlyChanges [.command, .uplink, .events, .staging] s (answerArrival f c b s) :=
    fun c b => onlyChanges_mono (answerArrival_changes f c b s) (by simp)
  unfold answer
  split
  · exact plain _ _
  · unfold runEventAck
    split
    · exact onlyChanges_trans (plain .ok []) (acknowledge_changes _ _) (List.Subset.refl _) (by simp)
    · exact plain _ _
  · exact plain _ _
  · exact onlyChanges_refl _ s

theorem enqueue_changes (f : CommandFrame) (h : Bool) (s : State) : OnlyChanges [.command] s (enqueue f h s) := by
  simp [onlyChanges_iff]

theorem arrive_changes (p : List Byte) (s : State) :
    OnlyChanges [.command, .uplink, .events, .staging, .faults] s (arrive p s) := by
  unfold arrive
  split
  · simp [onlyChanges_iff]
  · split
    · exact onlyChanges_mono (takeFault_changes s rfl) (by simp)
    · unfold decideArrival
      split
      · exact onlyChanges_mono (enqueue_changes _ _ s) (by simp)
      · split
        · exact onlyChanges_mono (answer_changes _ _ s) (by simp)
        · exact onlyChanges_mono (enqueue_changes _ _ s) (by simp)

theorem takeHeld_changes (before after : List CommandEntry) (e : CommandEntry) (s : State) :
    OnlyChanges [.command, .uplink, .events, .staging] s (takeHeld before e after s) := by
  unfold takeHeld
  dsimp only
  split
  · simp [onlyChanges_iff]
  · exact onlyChanges_trans (c := [.command]) (by simp [onlyChanges_iff]) (answer_changes _ _ _) (by simp)
      (List.Subset.refl _)

/-! ### The blocks that results and the episode touch -/

/-- What the end of the episode and the start of the map command that waits for it can touch (R109, R10). -/
def noneBlocks : List Block := [.pageMap, .staging, .tracker, .locks, .command]

theorem lockReport_changes (slot : Slot) (s : State) : OnlyChanges noneBlocks s (lockReport slot s) := by
  simp [onlyChanges_iff, noneBlocks]

theorem requestFault_noFence (r : Request) (tag : TagRef) (k : FaultKind) (s : State) (hk : k.fencing = false) :
    OnlyChanges [.faults] s (requestFault r tag (.error k) s) := by
  unfold requestFault
  dsimp only
  split
  · exact onlyChanges_refl _ s
  · have hf : autofences { kind := k, slot := some r.slot, hostAddress := some r.hostAddress, tag := some (tagByte tag) } s =
        false := by simp [autofences, hk]
    simp [onlyChanges_iff, takeFault_unfenced hf]

/-- The results that a request can have make no fencing fault (R55, R56, R141). -/
def FetchResult.harmless : FetchResult → Prop
  | .data _ => True
  | .error k => k.fencing = false

theorem completionResult_harmless (r : Request) (status : Byte) (data : List Byte) :
    (completionResult r status data).harmless := by
  unfold completionResult
  (repeat' split) <;> simp [FetchResult.harmless, FaultKind.fencing]

theorem requestFault_changes (r : Request) (tag : TagRef) {result : FetchResult} (s : State) (h : result.harmless) :
    OnlyChanges [.faults] s (requestFault r tag result s) := by
  cases result with
  | data bytes => exact onlyChanges_refl _ s
  | error k => exact requestFault_noFence r tag k s h

theorem handOver_changes (r : Request) (tag : TagRef) (result : FetchResult) (s : State) :
    OnlyChanges (.faults :: noneBlocks) s (handOver r tag result s) := by
  have refused : ∀ slot, OnlyChanges [.faults] s (takeFault { kind := .exclRefused, slot := some slot } s) :=
    fun slot => takeFault_changes s rfl
  unfold handOver
  split
  · simp [onlyChanges_iff, noneBlocks]
  · simp [onlyChanges_iff, noneBlocks]
  · unfold beginResult
    split
    · exact onlyChanges_refl _ s
    · next e _ =>
      have hb := onlyChanges_iff.mp (refused e.slot)
      split
      · exact onlyChanges_refl _ s
      · dsimp only
        split <;> simp_all [onlyChanges_iff, noneBlocks]

/-- What the end of a request can touch (R51, R55, R56). -/
theorem finishRequest_changes (i : TagIx) (r : Request) {result : FetchResult} (s : State) (h : result.harmless) :
    OnlyChanges (.faults :: noneBlocks) s (finishRequest i r result s) := by
  unfold finishRequest
  refine onlyChanges_trans (c := .faults :: noneBlocks) (d := .faults :: noneBlocks) ?_ (handOver_changes _ _ _ _)
    (List.Subset.refl _) (List.Subset.refl _)
  exact onlyChanges_trans (c := [.tracker]) (by simp [onlyChanges_iff]) (requestFault_changes _ _ _ h)
    (by simp [noneBlocks]) (by simp [noneBlocks])

theorem memData_changes (p : List Byte) (s : State) : OnlyChanges (.faults :: noneBlocks) s (memData p s) := by
  have unexpected : ∀ tag, OnlyChanges (.faults :: noneBlocks) s
      (takeFault { kind := .unexpectedCompletion, tag := some tag } s) :=
    fun tag => onlyChanges_mono (takeFault_changes s rfl) (by simp)
  unfold memData
  dsimp only
  split
  · split
    · split
      · exact finishRequest_changes _ _ s (completionResult_harmless _ _ _)
      · exact unexpected _
    · exact unexpected _
  · exact unexpected _

theorem expireEpisode_changes (e : Episode) (s : State) :
    OnlyChanges (.faults :: .bus :: noneBlocks) s (expireEpisode e s) := by
  unfold expireEpisode
  dsimp only
  (repeat' split) <;> simp [onlyChanges_iff, noneBlocks]

/-! ### The blocks that the slot bus touches -/

theorem serve_changes (t : Translation) (x : Transfer) (lock : Bool) (s : State) :
    OnlyChanges [.staging, .tracker, .locks] s (serve t x lock s).2 := by
  obtain ⟨h1, h2, h3, h4, h5, h6, h7, h8, h9⟩ := serve_keeps t x lock s
  simp [onlyChanges_iff, *]

theorem windowAccess_changes (slot : Slot) (a : CardAddr) (x : Transfer) (lock : Bool) (s : State) :
    OnlyChanges [.bus, .faults, .staging, .tracker, .locks] s (windowAccess slot a x lock s).2 := by
  unfold windowAccess
  dsimp only
  split
  · simp [onlyChanges_iff]
  · split
    · simp [onlyChanges_iff]
    · unfold translateAndServe
      split
      · simp [onlyChanges_iff]
      · exact onlyChanges_mono (serve_changes _ _ _ s) (by simp)

theorem claimedPresentation_changes (slot : Slot) (a : CardAddr) (x : Transfer) (lock : Bool) (s : State) :
    OnlyChanges [.bus, .faults, .staging, .tracker, .locks] s (claimedPresentation slot a x lock s) := by
  unfold claimedPresentation
  refine onlyChanges_trans (d := [.bus]) (windowAccess_changes slot a (cutTransfer (blockLength a x) x) lock s) ?_
    (List.Subset.refl _) (by simp)
  simp [onlyChanges_iff]

theorem grant_changes (requests : BitVec 6) (s : State) :
    OnlyChanges [.bus, .locks, .command, .master] s (grant requests s) := by
  have access : OnlyChanges [.bus, .locks, .command, .master] s (grantAccess s) := by
    unfold grantAccess
    split <;> simp [onlyChanges_iff]
  unfold grant grantFree grantLock
  (repeat' split) <;> first | exact access | simp [onlyChanges_iff]

/-! ### The blocks that the bridge master touches -/

/-- What the end of a downstream access can touch. -/
def masterBlocks : List Block := [.master, .bus, .staging, .command]

theorem failAccess_changes (a : Downstream) (code : ResultCode) (s : State) :
    OnlyChanges masterBlocks s (failAccess a code s) := by
  unfold failAccess
  dsimp only
  (repeat' split) <;> simp [onlyChanges_iff, masterBlocks]

theorem followAnswer_changes (a : Downstream) (r : Response) (data : List Byte) (s : State) :
    OnlyChanges masterBlocks s (followAnswer a r data s) := by
  unfold followAnswer
  split
  · unfold finishWrite finishRead
    dsimp only
    (repeat' split) <;> simp [onlyChanges_iff, masterBlocks]
  · simp [continueAccess, onlyChanges_iff, masterBlocks]
  · unfold retryAccess
    dsimp only
    split
    · simp [onlyChanges_iff, masterBlocks]
    · split
      · exact failAccess_changes _ _ s
      · split <;> simp [onlyChanges_iff, masterBlocks]
  · exact failAccess_changes _ _ s

/-! ### The blocks that the transmitter touches -/

/-- What the transmitter can touch (R180). -/
def sendBlocks : List Block := [.uplink, .command, .events, .faults, .tracker, .staging]

theorem serveClass_changes (c : TxClass) (s : State) : OnlyChanges sendBlocks s (serveClass c s) := by
  unfold serveClass
  cases c with
  | reply =>
    dsimp only
    unfold serveReply sendReport sendEvent eventTransmitted
    (repeat' split) <;> simp [onlyChanges_iff, sendBlocks]
  | fault =>
    dsimp only
    unfold serveFault
    (repeat' split) <;> simp [onlyChanges_iff, sendBlocks]
  | posted =>
    dsimp only
    unfold servePosted
    (repeat' split) <;> simp [onlyChanges_iff, sendBlocks]
  | request =>
    dsimp only
    unfold serveRequest
    dsimp only
    (repeat' split) <;> simp [onlyChanges_iff, sendBlocks]

theorem serveNew_changes (s : State) : OnlyChanges sendBlocks s (serveNew s) := by
  unfold serveNew
  split
  · split
    · exact serveClass_changes _ s
    · exact onlyChanges_refl _ s
  · exact onlyChanges_refl _ s

/-- A link frame or the frame of a replay touches the Uplink Port alone. -/
theorem sendLink_changes (s : State) (n : SeqNo) :
    OnlyChanges [.uplink] s (sendLinkReset s) ∧ OnlyChanges [.uplink] s (sendInit s) ∧
      OnlyChanges [.uplink] s (sendNak s) ∧ OnlyChanges [.uplink] s (sendAck s) ∧
      OnlyChanges [.uplink] s (sendCredit s) ∧ OnlyChanges [.uplink] s (sendReplay n s) := by
  refine ⟨?_, ?_, ?_, ?_, ?_, ?_⟩
  case _ => simp [sendLinkReset, onlyChanges_iff]
  case _ => simp [sendInit, onlyChanges_iff]
  case _ => simp [sendNak, onlyChanges_iff]
  case _ => simp [sendAck, onlyChanges_iff]
  case _ => simp [sendCredit, onlyChanges_iff]
  case _ =>
    unfold sendReplay
    split <;> simp [onlyChanges_iff]

theorem transmitNext_changes (s : State) : OnlyChanges sendBlocks s (transmitNext s) := by
  have wider : ∀ {t}, OnlyChanges [.uplink] s t → OnlyChanges sendBlocks s t :=
    fun h => onlyChanges_mono h (by simp [sendBlocks])
  have link := sendLink_changes s
  unfold transmitNext
  split
  · exact wider (link 0).1
  · split
    · exact wider (link 0).2.1
    · split
      · exact wider (link 0).2.2.1
      · split
        · exact wider (link 0).2.2.2.1
        · split
          · exact wider (link 0).2.2.2.2.1
          · split
            · next n _ => exact wider (link n).2.2.2.2.2
            · exact serveNew_changes s

/-! ### The blocks that a command touches -/

/-- The blocks that a command can touch. -/
def touched : Instr → List Block
  | .powerOnReset => .pageMap :: lossBlocks
  | .initReceived _ | .nakReceived _ | .linkResetReceived _ | .lossOfSignal => lossBlocks
  | .replayDeadlineExpiry => .time :: lossBlocks
  | .ackReceived _ | .badFrameReceived _ => [.uplink]
  | .creditReceived _ => [.uplink, .faults]
  | .commandReceived .. => [.command, .uplink, .events, .staging, .faults]
  | .memDataReceived .. => .uplink :: .faults :: noneBlocks
  | .initIntervalExpiry | .trainingDeadlineExpiry | .ackDeadlineExpiry => [.uplink, .time]
  | .transmitterFree => sendBlocks
  | .heldEntryTaken => [.command, .uplink, .events, .staging]
  | .mapWrite | .mapInvalidate | .windowSet => [.pageMap, .staging, .command, .uplink]
  | .mapRead => [.command, .uplink]
  | .bufferControlFlush | .bufferControlEnable | .bufferControlDisable => [.staging, .command, .uplink]
  | .setLimits => [.tracker, .locks, .master, .command, .uplink]
  | .slotControlEnable | .slotControlDisable | .slotControlReset => [.bus, .events, .staging, .command, .uplink]
  | .slotControlFence => [.bus, .staging, .command, .uplink]
  | .slotControlUnfence | .slotControlAutofenceOn | .slotControlAutofenceOff => [.bus, .command, .uplink]
  | .slotControlMask | .slotControlUnmask => [.events, .staging, .command, .uplink]
  | .slotControlClearFaults => [.bus, .faults, .command, .uplink]
  | .cardRead | .cardWrite => [.master, .bus, .command, .uplink]
  | .lockOpen => [.locks, .command, .uplink]
  | .lockClose => [.locks, .bus, .command, .uplink]
  | .bridgeReset => .pageMap :: lossBlocks
  | .slotPresentation .. => .bus :: .faults :: noneBlocks
  | .lockRelease _ => noneBlocks
  | .busGrant _ => [.bus, .locks, .command, .master]
  | .grantIdleTimeout => [.bus, .time]
  | .requestDropped _ => [.bus]
  | .presentationAnswer .. => masterBlocks
  | .noClaim => .time :: masterBlocks
  | .interruptAssertion _ | .interruptDeassertion _ => [.events, .staging]
  | .slotResetEnd _ => [.bus, .events, .staging, .command, .time]
  | .gatherIdleExpiry _ => [.staging, .time]
  | .readTimeoutExpiry _ => .time :: .faults :: noneBlocks
  | .episodeLimitExpiry => .time :: .faults :: .bus :: noneBlocks
  | .lockLimitExpiry => [.locks, .bus, .command, .time]
  | .reinitialisationComplete => [.command]
  | .slotDrainComplete _ => [.events, .staging, .locks, .tracker]
  | .globalDrainComplete => [.staging, .command, .master]
  | .mapBarrierComplete => [.staging, .command]
  | .closedLineMove => [.staging, .tracker]
  | .exclEndPlaced => noneBlocks
  | .exclBeginAllocation => [.locks, .tracker]
  | .slotTransactionAnswer _ => [.bus]
  | .slotTransactionNoClaim => [.bus, .time]

/-- The start of an ordered command on top of `beginHead` (R158). -/
theorem runHead_changes {start : Command → Option (State → State)} {changed : List Block} {s : State}
    (hb : .command ∈ changed ∧ .uplink ∈ changed) (h : ∀ c f t, start c = some f → OnlyChanges changed t (f t)) :
    OnlyChanges changed s (runHead start s) := by
  refine runHead_ind (onlyChanges_refl _ s) fun e rest c f _ hf => ?_
  refine onlyChanges_trans (c := [.command, .uplink]) ?_ (h c f _ hf) (by simpa using hb) (List.Subset.refl _)
  simp [onlyChanges_iff]

theorem slotCommand_changes {action : SlotAction} {act : Slot → State → State} {changed : List Block} {s : State}
    (hb : .command ∈ changed ∧ .uplink ∈ changed) (h : ∀ slot t, OnlyChanges changed t (act slot t)) :
    OnlyChanges changed s (slotCommand action act s) := by
  refine slotCommand_ind (onlyChanges_refl _ s) fun e rest slot _ => ?_
  have begun : OnlyChanges [.command, .uplink] s (beginHead e rest s) := by simp [onlyChanges_iff]
  have acted := onlyChanges_trans begun (h slot _) (e := changed) (by simpa using hb) (List.Subset.refl _)
  exact onlyChanges_trans (d := [.command]) acted (by simp [onlyChanges_iff]) (List.Subset.refl _) (by simpa using hb.1)

theorem startUnlessEpisode_changes {start : State → State} {changed : List Block} {t : State} (hb : .command ∈ changed)
    (h : OnlyChanges changed t (start t)) : OnlyChanges changed t (startUnlessEpisode start t) := by
  unfold startUnlessEpisode
  split
  · exact h
  · exact onlyChanges_mono (c := [.command]) (by simp [onlyChanges_iff]) (by simpa using hb)

theorem startBridgeReset_changes (s : State) : OnlyChanges (.pageMap :: lossBlocks) s (startBridgeReset s) := by
  have credits : ∀ n t, (returnCredits n t).now = t.now ∧ (returnCredits n t).pending = t.pending := by
    intro n
    induction n with
    | zero => exact fun t => ⟨rfl, rfl⟩
    | succ n ih => exact fun t => by simpa [returnCredits] using ih (returnCredit t)
  simp [onlyChanges_iff, lossBlocks, startBridgeReset, resetBlocks, credits]

/-- No command touches a block outside its list. -/
theorem after_changes (i : Instr) (s : State) : OnlyChanges (touched i) s (after i s) := by
  have loss := linkLoss_changes
  have pass : ∀ d, OnlyChanges [.time] s (passTo d s) := fun d => by simp [onlyChanges_iff]
  cases i with
  | powerOnReset => simp [after, exec, execPowerOnReset, powerOn, touched, onlyChanges_iff, lossBlocks]
  | initReceived p => exact receive_changes (initFrame_changes _ s) (by simp [touched, lossBlocks])
  | ackReceived p => exact receive_changes (whenUp_changes (by simp [onlyChanges_iff, touched])) (by simp [touched])
  | nakReceived p => exact receive_changes (whenUp_changes (applyNak_changes _ s)) (by simp [touched, lossBlocks])
  | creditReceived p => exact receive_changes (whenUp_changes (grantCredits_changes _ _ s)) (by simp [touched])
  | linkResetReceived p => exact receive_changes (whenUp_changes (loss _ _ s)) (by simp [touched, lossBlocks])
  | commandReceived seq ackSeq p =>
    exact receive_changes (whenUp_changes (sequenced_changes (arrive_changes p) (by simp [touched]))) (by simp [touched])
  | memDataReceived seq ackSeq p =>
    exact receive_changes (whenUp_changes (sequenced_changes
      (fun t => onlyChanges_mono (memData_changes p t) (by simp [touched])) (by simp [touched]))) (by simp [touched])
  | badFrameReceived b =>
    simp only [after, exec, execBadFrameReceived]
    split <;> simp [crcFailed, touched, onlyChanges_iff]
  | lossOfSignal =>
    simp only [after, exec, execLossOfSignal]
    split
    · exact loss _ _ s
    · simp [touched, lossBlocks, onlyChanges_iff]
    · exact onlyChanges_refl _ s
  | initIntervalExpiry =>
    simp only [after, exec, execInitIntervalExpiry]
    (repeat' split) <;> simp [touched, onlyChanges_iff]
  | trainingDeadlineExpiry =>
    simp only [after, exec, execTrainingDeadlineExpiry]
    (repeat' split) <;> simp [touched, onlyChanges_iff]
  | ackDeadlineExpiry =>
    simp only [after, exec, execAckDeadlineExpiry]
    (repeat' split) <;> simp [touched, onlyChanges_iff]
  | replayDeadlineExpiry =>
    simp only [after, exec, execReplayDeadlineExpiry]
    split
    · exact onlyChanges_trans (pass _) (replayDue_changes _) (by simp [touched]) (by simp [touched])
    · exact onlyChanges_refl _ s
  | transmitterFree => exact transmitNext_changes s
  | heldEntryTaken =>
    simp only [after, exec, execHeldEntryTaken]
    split
    · split
      · exact takeHeld_changes _ _ _ s
      · exact onlyChanges_refl _ s
    · exact onlyChanges_refl _ s
  | mapWrite =>
    refine runHead_changes (by simp [touched]) fun c f t hf => ?_
    cases c <;> simp only [reduceCtorEq, Option.some.injEq] at hf
    exact hf ▸ startUnlessEpisode_changes (by simp [touched]) (by simp [onlyChanges_iff, touched])
  | mapRead =>
    refine runHead_changes (by simp [touched]) fun c f t hf => ?_
    cases c <;> simp only [reduceCtorEq, Option.some.injEq] at hf
    subst hf
    simp [onlyChanges_iff, touched, startMapRead]
  | mapInvalidate =>
    refine runHead_changes (by simp [touched]) fun c f t hf => ?_
    cases c <;> simp only [reduceCtorEq, Option.some.injEq] at hf
    exact hf ▸ startUnlessEpisode_changes (by simp [touched]) (by simp [onlyChanges_iff, touched])
  | windowSet =>
    refine runHead_changes (by simp [touched]) fun c f t hf => ?_
    cases c <;> simp only [reduceCtorEq, Option.some.injEq] at hf
    exact hf ▸ startUnlessEpisode_changes (by simp [touched]) (by simp [onlyChanges_iff, touched])
  | bufferControlFlush =>
    refine runHead_changes (by simp [touched]) fun c f t hf => ?_
    cases c <;> (try cases ‹BufferAction›) <;> simp only [reduceCtorEq, Option.some.injEq] at hf
    subst hf
    simp [onlyChanges_iff, touched, applyBufferFields]
  | bufferControlEnable =>
    refine runHead_changes (by simp [touched]) fun c f t hf => ?_
    cases c <;> (try cases ‹BufferAction›) <;> simp only [reduceCtorEq, Option.some.injEq] at hf
    subst hf
    simp [onlyChanges_iff, touched, applyBufferFields, setBuffering]
  | bufferControlDisable =>
    refine runHead_changes (by simp [touched]) fun c f t hf => ?_
    cases c <;> (try cases ‹BufferAction›) <;> simp only [reduceCtorEq, Option.some.injEq] at hf
    subst hf
    simp [onlyChanges_iff, touched, applyBufferFields, setBuffering]
  | setLimits =>
    refine runHead_changes (by simp [touched]) fun c f t hf => ?_
    cases c <;> simp only [reduceCtorEq, Option.some.injEq] at hf
    subst hf
    unfold applyLimits
    dsimp only
    split <;> simp [onlyChanges_iff, touched]
  | slotControlEnable =>
    refine slotCommand_changes (by simp [touched]) fun slot t => ?_
    unfold enableSlot
    split <;> simp [onlyChanges_iff, touched]
  | slotControlDisable =>
    refine slotCommand_changes (by simp [touched]) fun slot t => ?_
    unfold disableSlot
    split <;> simp [onlyChanges_iff, touched]
  | slotControlFence => exact slotCommand_changes (by simp [touched]) fun slot t => by simp [onlyChanges_iff, touched]
  | slotControlUnfence =>
    exact slotCommand_changes (by simp [touched]) fun slot t => by simp [onlyChanges_iff, touched, unfence]
  | slotControlReset =>
    refine slotReset_ind (onlyChanges_refl _ s) fun e rest slot _ => ?_
    split <;> simp [onlyChanges_iff, touched, beginSlotReset]
  | slotControlMask =>
    exact slotCommand_changes (by simp [touched]) fun slot t => by simp [onlyChanges_iff, touched, maskSlot]
  | slotControlUnmask =>
    exact slotCommand_changes (by simp [touched]) fun slot t => by simp [onlyChanges_iff, touched, unmaskSlot]
  | slotControlClearFaults =>
    exact slotCommand_changes (by simp [touched]) fun slot t => by simp [onlyChanges_iff, touched, clearFaults]
  | slotControlAutofenceOn =>
    exact slotCommand_changes (by simp [touched]) fun slot t => by simp [onlyChanges_iff, touched, setAutofence]
  | slotControlAutofenceOff =>
    exact slotCommand_changes (by simp [touched]) fun slot t => by simp [onlyChanges_iff, touched, setAutofence]
  | cardRead =>
    refine runHead_changes (by simp [touched]) fun c f t hf => ?_
    cases c <;> simp only [reduceCtorEq, Option.some.injEq] at hf
    subst hf
    unfold startAccess
    (repeat' split) <;> simp [onlyChanges_iff, touched]
  | cardWrite =>
    refine runHead_changes (by simp [touched]) fun c f t hf => ?_
    cases c <;> simp only [reduceCtorEq, Option.some.injEq] at hf
    subst hf
    unfold startAccess
    (repeat' split) <;> simp [onlyChanges_iff, touched]
  | lockOpen =>
    refine runHead_changes (by simp [touched]) fun c f t hf => ?_
    cases c <;> simp only [reduceCtorEq, Option.some.injEq] at hf
    subst hf
    unfold startLockOpen
    split <;> simp [onlyChanges_iff, touched]
  | lockClose =>
    refine runHead_changes (by simp [touched]) fun c f t hf => ?_
    cases c <;> simp only [reduceCtorEq, Option.some.injEq] at hf
    subst hf
    unfold startLockClose
    split <;> simp [onlyChanges_iff, touched]
  | bridgeReset =>
    refine runHead_changes (by simp [touched, lossBlocks]) fun c f t hf => ?_
    cases c <;> simp only [reduceCtorEq, Option.some.injEq] at hf
    exact hf ▸ startBridgeReset_changes t
  | slotPresentation slot address x lock =>
    simp only [after, exec, execSlotPresentation]
    have reported : OnlyChanges noneBlocks s (if lock then s else lockReport slot s) := by
      split
      · exact onlyChanges_refl _ s
      · exact lockReport_changes slot s
    split
    · split
      · exact onlyChanges_trans reported (claimedPresentation_changes _ _ _ _ _) (by simp [touched])
          (by simp [touched, noneBlocks])
      · exact onlyChanges_trans reported (d := [.bus]) (by simp [awaitTarget, onlyChanges_iff]) (by simp [touched])
          (by simp [touched])
    · exact onlyChanges_refl _ s
  | lockRelease slot => exact lockReport_changes slot s
  | busGrant requests =>
    simp only [after, exec, execBusGrant]
    split
    · exact grant_changes requests s
    · exact onlyChanges_refl _ s
  | grantIdleTimeout =>
    simp only [after, exec, execGrantIdleTimeout]
    split <;> simp [onlyChanges_iff, touched]
  | requestDropped slot =>
    simp only [after, exec, execRequestDropped]
    split <;> simp [onlyChanges_iff, touched]
  | presentationAnswer r data =>
    simp only [after, exec, execPresentationAnswer]
    split
    · split
      · exact followAnswer_changes _ _ _ s
      · exact onlyChanges_refl _ s
    · exact onlyChanges_refl _ s
  | noClaim =>
    simp only [after, exec, execNoClaim]
    split
    · split
      · exact onlyChanges_trans (pass _) (failAccess_changes _ _ _) (by simp [touched]) (by simp [touched])
      · exact onlyChanges_refl _ s
    · exact onlyChanges_refl _ s
  | interruptAssertion slot =>
    simp [after, exec, execInterruptAssertion, onlyChanges_iff, touched]
  | interruptDeassertion slot =>
    simp only [after, exec, execInterruptDeassertion]
    split <;> simp [onlyChanges_iff, touched]
  | slotResetEnd slot =>
    simp only [after, exec, execSlotResetEnd, endSlotReset]
    (repeat' split) <;> simp [onlyChanges_iff, touched]
  | gatherIdleExpiry line =>
    simp only [after, exec, execGatherIdleExpiry]
    split <;> simp [onlyChanges_iff, touched]
  | readTimeoutExpiry tag =>
    simp only [after, exec, execReadTimeoutExpiry]
    split
    · exact onlyChanges_trans (pass _) (finishRequest_changes _ _ _ (by simp [FetchResult.harmless, FaultKind.fencing]))
        (by simp [touched]) (by simp [touched])
    · exact onlyChanges_refl _ s
  | episodeLimitExpiry =>
    simp only [after, exec, execEpisodeLimitExpiry]
    split
    · split
      · exact onlyChanges_trans (pass _) (expireEpisode_changes _ _) (by simp [touched]) (by simp [touched])
      · exact onlyChanges_refl _ s
    · exact onlyChanges_refl _ s
  | lockLimitExpiry =>
    simp only [after, exec, execLockLimitExpiry, expireLock]
    (repeat' split) <;> simp [onlyChanges_iff, touched]
  | reinitialisationComplete =>
    simp only [after, exec, execReinitialisationComplete]
    (repeat' split) <;> simp [onlyChanges_iff, touched]
  | slotDrainComplete slot =>
    simp only [after, exec, execSlotDrainComplete, reportEpisodeDrain, reportEventDrain]
    (repeat' split) <;> simp [onlyChanges_iff, touched]
  | globalDrainComplete =>
    simp only [after, exec, execGlobalDrainComplete, finishDrain]
    (repeat' split) <;> simp [onlyChanges_iff, touched]
  | mapBarrierComplete =>
    simp only [after, exec, execMapBarrierComplete]
    split <;> simp [onlyChanges_iff, touched]
  | closedLineMove =>
    simp only [after, exec, execClosedLineMove]
    split <;> simp [onlyChanges_iff, touched]
  | exclEndPlaced =>
    simp only [after, exec, execExclEndPlaced]
    (repeat' split) <;> simp [onlyChanges_iff, touched, noneBlocks]
  | exclBeginAllocation =>
    simp only [after, exec, execExclBeginAllocation]
    (repeat' split) <;> simp [onlyChanges_iff, touched]
  | slotTransactionAnswer r =>
    simp only [after, exec, execSlotTransactionAnswer, targetAnswer]
    (repeat' split) <;> simp [onlyChanges_iff, touched]
  | slotTransactionNoClaim =>
    simp only [after, exec, execSlotTransactionNoClaim]
    split <;> simp [onlyChanges_iff, touched]

end Sys2Proof.Machine
end

section
/-! The Event Unit's invariant: the offered EVENT frames are those of the records that are SENT with Frame OFFERED (R126, R129,
R181). -/

namespace Sys2Proof.Machine

/-- `EventsOffered`, said of the Event Unit alone. -/
def OffersMatch (u : EventUnit) : Prop :=
  (u.offered.map (·.slot)).Nodup ∧
    (∀ slot : Slot, (∃ f ∈ u.offered, f.slot = slot) ↔ (u.records.get slot).state = .sent false) ∧
    ∀ f ∈ u.offered, f.seq = (u.records.get f.slot).seq ∧ f.resend = (u.records.get f.slot).resend

theorem eventsOffered_iff (s : State) : EventsOffered s ↔ OffersMatch s.events := Iff.rfl

theorem eventsOffered_congr {s t : State} (h : EventsOffered s) (he : t.events = s.events) : EventsOffered t := by
  rw [eventsOffered_iff] at h ⊢
  exact he ▸ h

/-! ### The changes of one record -/

theorem offersMatch_lines {u : EventUnit} (h : OffersMatch u) (levels : Table Bool 6) :
    OffersMatch { u with lines := levels } := h

/-- A record that offers nothing before and after may change at will. -/
theorem offersMatch_set {u : EventUnit} {slot : Slot} {r : EventRecord} (h : OffersMatch u)
    (hold : (u.records.get slot).state ≠ .sent false) (hnew : r.state ≠ .sent false) :
    OffersMatch { u with records := u.records.set slot r } := by
  obtain ⟨distinct, listed, fields⟩ := h
  have others : ∀ f ∈ u.offered, slot ≠ f.slot := fun f hf e => hold ((listed slot).mp ⟨f, hf, e.symm⟩)
  refine ⟨distinct, fun x => ?_, fun f hf => ?_⟩
  · by_cases e : slot = x
    · subst e
      simp only [Table.get_set_self, hnew, iff_false]
      exact fun ⟨f, hf, hx⟩ => others f hf hx.symm
    · simpa only [Table.get_set_ne _ _ e] using listed x
  · simpa only [Table.get_set_ne _ _ (others f hf)] using fields f hf

/-- A record may change in what its frame does not carry. -/
theorem offersMatch_set_same {u : EventUnit} {slot : Slot} {r : EventRecord} (h : OffersMatch u)
    (hstate : r.state = (u.records.get slot).state) (hseq : r.seq = (u.records.get slot).seq)
    (hresend : r.resend = (u.records.get slot).resend) : OffersMatch { u with records := u.records.set slot r } := by
  obtain ⟨distinct, listed, fields⟩ := h
  refine ⟨distinct, fun x => ?_, fun f hf => ?_⟩
  · rw [listed x, Table.get_set]
    by_cases e : slot = x
    · subst e
      simp [hstate]
    · simp [e]
  · rw [Table.get_set]
    by_cases e : slot = f.slot
    · simpa [e, hseq, hresend] using fields f hf
    · simpa [e] using fields f hf

/-- A record that offers nothing is offered: its frame joins the tail (R129). -/
theorem offersMatch_offer {u : EventUnit} {slot : Slot} (h : OffersMatch u)
    (hold : (u.records.get slot).state ≠ .sent false) :
    OffersMatch
      { u with
        records := u.records.set slot { u.records.get slot with state := .sent false }
        offered := u.offered ++ [⟨slot, (u.records.get slot).seq, (u.records.get slot).resend⟩] } := by
  obtain ⟨distinct, listed, fields⟩ := h
  have others : ∀ f ∈ u.offered, slot ≠ f.slot := fun f hf e => hold ((listed slot).mp ⟨f, hf, e.symm⟩)
  refine ⟨?_, fun x => ?_, fun f hf => ?_⟩
  · simp only [List.map_append, List.map_cons, List.map_nil, List.nodup_append, List.nodup_cons, List.not_mem_nil,
      not_false_iff, List.nodup_nil, and_true, List.mem_map, List.mem_singleton]
    refine ⟨distinct, trivial, ?_⟩
    rintro _ ⟨f, hf, rfl⟩ _ rfl e
    exact others f hf e.symm
  · by_cases e : slot = x
    · subst e
      simp
    · simpa only [Table.get_set_ne _ _ e, List.mem_append, List.mem_singleton, or_and_right, exists_or, exists_eq_left, e,
        or_false] using listed x
  · obtain hf | hf := List.mem_append.mp hf
    · simpa only [Table.get_set_ne _ _ (others f hf)] using fields f hf
    · rw [List.mem_singleton.mp hf]
      simp

/-- A record leaves SENT and its offered frame is withdrawn (R133, R135). -/
theorem offersMatch_withdraw {u : EventUnit} {slot : Slot} {r : EventRecord} (h : OffersMatch u)
    (hnew : r.state ≠ .sent false) :
    OffersMatch
      { u with records := u.records.set slot r, offered := u.offered.filter (fun f => f.slot ≠ slot) } := by
  obtain ⟨distinct, listed, fields⟩ := h
  refine ⟨?_, fun x => ?_, fun f hf => ?_⟩
  · exact distinct.sublist (List.filter_sublist.map _)
  · by_cases e : slot = x
    · subst e
      simp only [Table.get_set_self, hnew, iff_false, List.mem_filter, decide_eq_true_eq]
      exact fun ⟨f, ⟨_, hf⟩, hx⟩ => hf hx
    · rw [Table.get_set_ne _ _ e, ← listed x]
      simp only [List.mem_filter, decide_eq_true_eq]
      exact ⟨fun ⟨f, ⟨hf, _⟩, hx⟩ => ⟨f, hf, hx⟩, fun ⟨f, hf, hx⟩ => ⟨f, ⟨hf, fun y => e (y.symm.trans hx)⟩, hx⟩⟩
  · obtain ⟨hf, hx⟩ := List.mem_filter.mp hf
    rw [Table.get_set_ne _ _ (fun e => by simp [e] at hx)]
    exact fields f hf

/-- The head of the offered frames is sent, and its record becomes TRANSMITTED (R129). -/
theorem offersMatch_send {u : EventUnit} {f : EventFrame} {rest : List EventFrame} {r : EventRecord} (h : OffersMatch u)
    (ho : u.offered = f :: rest) (hnew : r.state ≠ .sent false) :
    OffersMatch { u with records := u.records.set f.slot r, offered := rest } := by
  have only : u.offered.filter (fun g => g.slot ≠ f.slot) = rest := by
    have distinct := h.1
    rw [ho, List.map_cons, List.nodup_cons] at distinct
    rw [ho, List.filter_cons_of_neg (by simp), List.filter_eq_self]
    intro g hg
    simpa using fun e => distinct.1 (List.mem_map.mpr ⟨g, hg, e⟩)
  have w := offersMatch_withdraw (slot := f.slot) h hnew
  rwa [only] at w

theorem offersMatch_nothing {u : EventUnit} (ho : u.offered = []) (hs : ∀ slot, (u.records.get slot).state ≠ .sent false) :
    OffersMatch u := by
  simp [OffersMatch, ho, hs]

/-! ### The operations of the Event Unit -/

theorem offerEvent_eventsOffered {slot : Slot} {s : State} (h : EventsOffered s) (hold : (eventAt slot s).state ≠ .sent false) :
    EventsOffered (offerEvent slot s) := offersMatch_offer h hold

theorem eventDrained_eventsOffered (slot : Slot) {s : State} (h : EventsOffered s) : EventsOffered (eventDrained slot s) := by
  unfold eventDrained
  split
  · next d hd =>
    split
    · exact offerEvent_eventsOffered h (by simp [hd])
    · exact offersMatch_set h (fun sent => by simp [eventAt, sent] at hd) (by simp)
  · exact h

theorem raiseEvent_eventsOffered {slot : Slot} {s : State} (h : EventsOffered s) (hidle : (eventAt slot s).state = .idle) :
    EventsOffered (raiseEvent slot s) := by
  have begun : EventsOffered (freeSlotReads slot
      (startSlotDrain .event slot (setEvent slot { eventAt slot s with state := .pending false } s))) := by
    refine eventsOffered_congr (s := setEvent slot { eventAt slot s with state := .pending false } s) ?_ (by simp)
    exact offersMatch_set h (fun sent => by simp [eventAt, sent] at hidle) (by simp)
  unfold raiseEvent
  dsimp only
  split
  · exact eventDrained_eventsOffered slot begun
  · exact begun

theorem lookAtLine_eventsOffered (slot : Slot) {s : State} (h : EventsOffered s) : EventsOffered (lookAtLine slot s) := by
  unfold lookAtLine
  split
  · next hr => exact raiseEvent_eventsOffered h ((raises_iff slot s).mp hr).1
  · exact h

theorem withdrawEvent_eventsOffered (slot : Slot) {s : State} (h : EventsOffered s) : EventsOffered (withdrawEvent slot s) := by
  unfold withdrawEvent
  split
  · next d hd =>
    refine eventsOffered_congr (s := setEvent slot (eventAt slot s).ended s) ?_ (by simp)
    exact offersMatch_set h (fun sent => by simp [eventAt, sent] at hd) (by simp [EventRecord.ended])
  · exact h

theorem endEvent_eventsOffered (slot : Slot) {s : State} (h : EventsOffered s) : EventsOffered (endEvent slot s) := by
  unfold endEvent
  refine eventsOffered_congr (s := withdrawOffer slot (setEvent slot (eventAt slot s).ended s)) ?_ (by simp)
  exact offersMatch_withdraw h (by simp [EventRecord.ended])

theorem acknowledge_eventsOffered (slot : Slot) {s : State} (h : EventsOffered s) : EventsOffered (acknowledge slot s) := by
  unfold acknowledge
  exact lookAtLine_eventsOffered slot (offersMatch_withdraw h (by simp))

theorem offerPending_eventsOffered {s : State} (h : EventsOffered s) : EventsOffered (offerPending s) := by
  unfold offerPending
  generalize allSlots = slots
  induction slots generalizing s with
  | nil => exact h
  | cons x rest ih =>
    rw [List.foldl_cons]
    apply ih
    split
    · next hx => exact offerEvent_eventsOffered h (by simp [hx])
    · exact h

theorem linkLoss_eventsOffered (training reset : Bool) (s : State) : EventsOffered (linkLoss training reset s) := by
  have he : (linkLoss training reset s).events = s.events.atLoss := by simp [linkLoss, lossEvents]
  rw [eventsOffered_iff, he]
  refine offersMatch_nothing rfl fun slot => ?_
  simp only [EventUnit.atLoss, Table.get_map, EventRecord.atLoss]
  split <;> simp_all

/-! ### The commands -/

theorem replayDue_eventsOffered {s : State} (h : EventsOffered s) : EventsOffered (replayDue s) := by
  unfold replayDue
  split
  · exact eventsOffered_congr h (by simp)
  · exact linkLoss_eventsOffered _ _ _

theorem applyNak_eventsOffered (n : SeqNo) {s : State} (h : EventsOffered s) : EventsOffered (applyNak n s) := by
  have again : ∀ {t : State}, EventsOffered t → EventsOffered (replayIfAny t) := by
    intro t ht
    unfold replayIfAny
    split
    · exact ht
    · exact replayDue_eventsOffered ht
  unfold applyNak
  split
  · split
    · exact again h
    · exact h
  · exact again (eventsOffered_congr h (by simp))

theorem initFrame_eventsOffered (f : InitFields) {s : State} (h : EventsOffered s) : EventsOffered (initFrame f s) := by
  unfold initFrame
  split
  · split
    · exact eventsOffered_congr h (by simp)
    · exact h
  · split
    · exact offerPending_eventsOffered (eventsOffered_congr h (by simp))
    · exact h
  · exact linkLoss_eventsOffered _ _ _

/-- What a frame's rule keeps, and the Uplink Port cannot change, the arrival of the frame keeps (R172). -/
theorem receive_ind {P : State → Prop} {k : HostKind} {p : List Byte} {rule : State → State} {s : State} (same : P s)
    (uplink : P (malformedFrame s)) (ruled : linkUp s = true → P (rule s)) : P (receive k p (whenUp rule) s) := by
  unfold receive whenUp
  split
  · split
    · next hu => exact ruled hu
    · exact same
  · exact uplink

/-- The same for a sequenced frame, whose delivery comes after the Uplink Port's part (R173). -/
theorem sequenced_ind {P : State → Prop} {seq ackSeq : SeqNo} {deliver : State → State} {s : State}
    (uplink : ∀ u, u.linkState = s.uplink.linkState → P (s.setUplink u)) (delivered : ∀ u, u.linkState = s.uplink.linkState → P (deliver (s.setUplink u))) :
    P (sequenced seq ackSeq deliver s) := by
  have same : P s := by simpa [State.setUplink] using uplink s.uplink rfl
  have acked : ∃ u, applyAck ackSeq s = s.setUplink u ∧ u.linkState = s.uplink.linkState := by
    unfold applyAck
    split
    · exact ⟨s.uplink, rfl, rfl⟩
    · exact ⟨_, rfl, rfl⟩
  obtain ⟨u, hu, hl⟩ := acked
  unfold sequenced
  dsimp only
  rw [hu]
  split
  · exact delivered _ hl
  · split
    · unfold gap
      split
      · exact uplink u hl
      · exact uplink _ hl
    · exact uplink _ hl

theorem answer_eventsOffered (f : CommandFrame) (v : Verdict) {s : State} (h : EventsOffered s) :
    EventsOffered (answer f v s) := by
  have plain : ∀ c b, EventsOffered (answerArrival f c b s) := fun c b => eventsOffered_congr h (by simp)
  unfold answer
  split
  · exact plain _ _
  · unfold runEventAck
    split
    · exact acknowledge_eventsOffered _ (plain _ _)
    · exact plain _ _
  · exact plain _ _
  · exact h

theorem arrive_eventsOffered (p : List Byte) {s : State} (h : EventsOffered s) : EventsOffered (arrive p s) := by
  unfold arrive decideArrival
  split
  · exact eventsOffered_congr h (by simp)
  · split
    · exact eventsOffered_congr h (by simp)
    · split
      · exact eventsOffered_congr h (by simp)
      · split
        · exact answer_eventsOffered _ _ h
        · exact eventsOffered_congr h (by simp)

theorem takeHeld_eventsOffered (before after : List CommandEntry) (e : CommandEntry) {s : State} (h : EventsOffered s) :
    EventsOffered (takeHeld before e after s) := by
  unfold takeHeld
  dsimp only
  split
  · exact eventsOffered_congr h (by simp)
  · exact answer_eventsOffered _ _ (eventsOffered_congr h (by simp))

theorem transmitNext_eventsOffered {s : State} (h : EventsOffered s) : EventsOffered (transmitNext s) := by
  have event : ∀ (t : State) f rest, t.events = s.events → s.events.offered = f :: rest → EventsOffered (sendEvent f rest t) := by
    intro t f rest ht ho
    have sent := offersMatch_send (r := { eventAt f.slot s with state := .sent true, resend := true }) h ho (by simp)
    refine (eventsOffered_iff _).mpr ?_
    simpa [sendEvent, eventTransmitted, setEvent, eventAt, ht] using sent
  have reply : ∀ t : State, t.events = s.events → EventsOffered (serveReply t) := by
    intro t ht
    unfold serveReply
    split
    · next f fs e es hr ho =>
      split
      · exact event t _ _ ht (ht ▸ ho)
      · exact eventsOffered_congr h (by simp [sendReport, ht])
    · exact eventsOffered_congr h (by simp [sendReport, ht])
    · next e es hr ho => exact event t _ _ ht (ht ▸ ho)
    · exact eventsOffered_congr h ht
  have same : ∀ t : State, t.events = s.events → EventsOffered t := fun t => eventsOffered_congr h
  unfold transmitNext serveNew serveClass
  (repeat' split)
  case _ => exact same _ (by simp [sendLinkReset])
  case _ => exact same _ (by simp [sendInit])
  case _ => exact same _ (by simp [sendNak])
  case _ => exact same _ (by simp [sendAck])
  case _ => exact same _ (by simp [sendCredit])
  case _ n _ =>
    unfold sendReplay
    split <;> exact same _ (by simp)
  case _ => exact reply _ (by simp)
  case _ =>
    unfold serveFault
    split <;> exact same _ (by simp)
  case _ =>
    unfold servePosted
    split <;> exact same _ (by simp)
  case _ =>
    unfold serveRequest
    dsimp only
    (repeat' split) <;> exact same _ (by simp)
  case _ => exact h
  case _ => exact h

theorem after_eventsOffered (i : Instr) (s : State) (h : EventsOffered s) : EventsOffered (after i s) := by
  have same : ∀ t : State, t.events = s.events → EventsOffered t := fun t => eventsOffered_congr h
  by_cases touches : Block.events ∈ touched i
  case neg => exact same _ ((after_changes i s).1 .events touches)
  cases i with
  | powerOnReset => exact offersMatch_nothing rfl (by simp [after, exec, execPowerOnReset, powerOn, EventUnit.reset, EventRecord.reset])
  | initReceived p =>
    simp only [after, exec, execInitReceived, receive]
    split
    · exact initFrame_eventsOffered _ h
    · exact same _ (by simp)
  | nakReceived p => exact receive_ind h (same _ (by simp)) fun _ => applyNak_eventsOffered _ h
  | linkResetReceived p => exact receive_ind h (same _ (by simp)) fun _ => linkLoss_eventsOffered _ _ s
  | commandReceived seq ackSeq p =>
    exact receive_ind h (same _ (by simp)) fun _ =>
      sequenced_ind (fun _ _ => same _ (by simp)) fun _ _ => arrive_eventsOffered p (same _ (by simp))
  | lossOfSignal =>
    simp only [after, exec, execLossOfSignal]
    split
    · exact linkLoss_eventsOffered _ _ s
    · exact same _ (by simp)
    · exact h
  | replayDeadlineExpiry =>
    simp only [after, exec, execReplayDeadlineExpiry]
    split
    · exact replayDue_eventsOffered (same _ (by simp))
    · exact h
  | transmitterFree => exact transmitNext_eventsOffered h
  | heldEntryTaken =>
    simp only [after, exec, execHeldEntryTaken]
    split
    · split
      · exact takeHeld_eventsOffered _ _ _ h
      · exact h
    · exact h
  | slotControlEnable =>
    refine slotCommand_ind h fun e rest slot _ => eventsOffered_congr (s := enableSlot slot (beginHead e rest s)) ?_ (by simp)
    unfold enableSlot
    split
    · exact same _ (by simp)
    · exact lookAtLine_eventsOffered slot (same _ (by simp))
  | slotControlDisable =>
    refine slotCommand_ind h fun e rest slot _ => eventsOffered_congr (s := disableSlot slot (beginHead e rest s)) ?_ (by simp)
    unfold disableSlot
    split
    · exact endEvent_eventsOffered slot (same _ (by simp))
    · exact same _ (by simp)
  | slotControlReset =>
    refine slotReset_ind h fun e rest slot _ => ?_
    split
    · exact eventsOffered_congr (endEvent_eventsOffered _ (same _ (by simp))) (complete_frame ..).2.2.2.2.2.2.1
    · exact same _ (by simp)
  | slotControlMask =>
    refine slotCommand_ind h fun e rest slot _ => eventsOffered_congr (s := maskSlot slot (beginHead e rest s)) ?_ (by simp)
    unfold maskSlot
    refine withdrawEvent_eventsOffered slot ?_
    have hm := offersMatch_set_same (slot := slot) (r := { eventAt slot s with masked := true }) h rfl rfl rfl
    simpa [eventsOffered_iff, setEvent, eventAt] using hm
  | slotControlUnmask =>
    refine slotCommand_ind h fun e rest slot _ => eventsOffered_congr (s := unmaskSlot slot (beginHead e rest s)) ?_ (by simp)
    unfold unmaskSlot
    refine lookAtLine_eventsOffered slot ?_
    have hm := offersMatch_set_same (slot := slot) (r := { eventAt slot s with masked := false }) h rfl rfl rfl
    simpa [eventsOffered_iff, setEvent, eventAt] using hm
  | bridgeReset =>
    refine runHead_ind h fun e rest c f _ hf => ?_
    cases c <;> simp only [reduceCtorEq, Option.some.injEq] at hf
    subst hf
    refine offersMatch_nothing ?_ ?_ <;> simp [startBridgeReset, resetBlocks, EventUnit.reset, EventRecord.reset]
  | interruptAssertion slot => exact lookAtLine_eventsOffered slot (offersMatch_lines h _)
  | interruptDeassertion slot =>
    simp only [after, exec, execInterruptDeassertion]
    split
    · exact withdrawEvent_eventsOffered slot (offersMatch_lines h _)
    · exact offersMatch_lines h _
  | slotResetEnd slot =>
    simp only [after, exec, execSlotResetEnd, endSlotReset]
    split
    · refine lookAtLine_eventsOffered slot ?_
      split <;> exact same _ (by simp)
    · exact h
  | slotDrainComplete slot =>
    refine eventsOffered_congr (s := reportEventDrain slot s) ?_ (by
      simp only [after, exec, execSlotDrainComplete, reportEpisodeDrain]
      split <;> simp)
    unfold reportEventDrain
    dsimp only
    split
    · exact eventDrained_eventsOffered slot (same _ (by simp))
    · exact h
  | _ => exact absurd touches (by simp [touched, noneBlocks, masterBlocks])

end Sys2Proof.Machine

namespace Sys2Proof

open Sys2Proof.Machine

/-- Settles O10: an offer is made and withdrawn together with the change of its record's state, command by command. -/
theorem stepKeepsOfferedEvents : Obligations.StepKeepsOfferedEvents :=
  fun _ _ hs h => step_keeps (fun _ _ h => h) (fun _ _ h => h) after_eventsOffered hs h

end Sys2Proof
end

section
/-! The Lock Unit's invariant: a HELD host lock and an exclusive episode exclude each other, and the bridge master owns the bus
under the lock (R84, R100). -/

namespace Sys2Proof.Machine

/-! ### What the episode's operations leave of the Lock Unit -/

/-- Only the episode and the slots in AbortNext may differ: the host lock and the limits stay. -/
def EpisodeMoves (s t : State) : Prop := ∃ e a, t.locks = { s.locks with episode := e, abortNext := a }

theorem episodeMoves_refl (s : State) : EpisodeMoves s s := ⟨s.locks.episode, s.locks.abortNext, rfl⟩

theorem episodeMoves_of_eq {s t : State} (h : t.locks = s.locks) : EpisodeMoves s t := ⟨_, _, h⟩

theorem episodeMoves_trans {s t u : State} (h : EpisodeMoves s t) (g : EpisodeMoves t u) : EpisodeMoves s u := by
  obtain ⟨_, _, h⟩ := h
  obtain ⟨e, a, g⟩ := g
  exact ⟨e, a, by rw [g, h]⟩

theorem setEpisode_locks (e : Option Episode) (s : State) : (setEpisode e s).locks = { s.locks with episode := e } := rfl

theorem toNone_locks (s : State) : (toNone s).locks = { s.locks with episode := none } := by
  simp [toNone, setEpisode_locks]

theorem joinEnd_locks (e : Episode) (s : State) : (joinEnd e s).locks = { s.locks with episode := none } := by
  simp [joinEnd, toNone_locks]

theorem postEnd_locks (e : Episode) (s : State) :
    (postEnd e s).locks =
      { s.locks with episode := if postedRoom s = true then none else some { e with endPending := true } } := by
  unfold postEnd
  split
  · simp [joinEnd_locks]
  · simp [setEpisode_locks]

theorem setEpisode_moves (e : Option Episode) (s : State) : EpisodeMoves s (setEpisode e s) := ⟨e, s.locks.abortNext, rfl⟩

theorem toNone_moves (s : State) : EpisodeMoves s (toNone s) := ⟨_, _, toNone_locks s⟩

theorem postEnd_moves (e : Episode) (s : State) : EpisodeMoves s (postEnd e s) := ⟨_, _, postEnd_locks e s⟩

theorem askBegin_moves (e : Episode) (s : State) : EpisodeMoves s (askBegin e s) := by
  unfold askBegin
  split
  · next h => exact episodeMoves_trans (episodeMoves_of_eq (allocateTag_frame h).2.2.2.1) (setEpisode_moves _ _)
  · exact episodeMoves_refl s

theorem episodeDrained_moves (slot : Slot) (s : State) : EpisodeMoves s (episodeDrained slot s) := by
  unfold episodeDrained
  split
  · split
    · exact askBegin_moves _ s
    · exact episodeMoves_refl s
  · exact episodeMoves_refl s

theorem lockReport_moves (slot : Slot) (s : State) : EpisodeMoves s (lockReport slot s) := by
  unfold lockReport
  split
  · exact episodeMoves_refl s
  · split
    · exact episodeMoves_refl s
    · split
      · split
        · exact setEpisode_moves _ s
        · exact episodeMoves_trans (episodeMoves_of_eq (by simp)) (toNone_moves _)
      · split
        · exact episodeMoves_refl s
        · exact postEnd_moves _ s
      · exact episodeMoves_refl s

theorem beginEpisode_moves (t : Translation) (s : State) : EpisodeMoves s (beginEpisode t s) := by
  unfold beginEpisode
  dsimp only
  split
  · exact episodeMoves_trans ⟨_, _, by simp [setEpisode_locks]; exact ⟨rfl, rfl⟩⟩ (episodeDrained_moves _ _)
  · exact ⟨_, _, by simp [setEpisode_locks]; exact ⟨rfl, rfl⟩⟩

theorem openLockedRead_moves (e : Episode) (t : Translation) (n : Nat) (s : State) :
    EpisodeMoves s (openLockedRead e t n s) := by
  unfold openLockedRead
  refine episodeMoves_trans (setEpisode_moves (some { e with heldRead := none }) s) ?_
  dsimp only
  split
  · exact episodeMoves_refl _
  · split
    · next h => exact episodeMoves_trans (episodeMoves_of_eq (allocateTag_frame h).2.2.2.1) (setEpisode_moves _ _)
    · exact episodeMoves_refl _

theorem lockedRead_moves (e : Episode) (t : Translation) (n : Nat) (s : State) :
    EpisodeMoves s (lockedRead e t n s).2 := by
  unfold lockedRead
  split
  · exact episodeMoves_refl s
  · split
    · exact openLockedRead_moves _ _ _ s
    · split
      · exact episodeMoves_refl s
      · split
        · exact setEpisode_moves _ s
        · exact openLockedRead_moves _ _ _ s
      · split
        · exact setEpisode_moves _ s
        · exact openLockedRead_moves _ _ _ s

theorem lockedWrite_moves (e : Episode) (t : Translation) (bytes : List Byte) (s : State) :
    EpisodeMoves s (lockedWrite e t bytes s).2 := by
  unfold lockedWrite
  (repeat' split) <;> first | exact episodeMoves_refl s | skip
  exact ⟨_, _, by simp [setEpisode_locks]; exact ⟨rfl, rfl⟩⟩

theorem lockedAccess_moves (t : Translation) (x : Transfer) (s : State) : EpisodeMoves s (lockedAccess t x s).2 := by
  unfold lockedAccess
  have start : EpisodeMoves s (freeSlotReads t.slot (closeGathering t.slot s)) := episodeMoves_of_eq (by simp)
  dsimp only
  split
  · unfold lockedInNone
    split
    · exact episodeMoves_trans start ⟨_, _, rfl⟩
    · exact episodeMoves_trans start (beginEpisode_moves _ _)
  · split
    · exact start
    · split
      · exact start
      · split
        · exact episodeMoves_trans start (lockedRead_moves _ _ _ _)
        · exact episodeMoves_trans start (lockedWrite_moves _ _ _ _)
      · exact start

theorem unlockedAccess_locks (t : Translation) (x : Transfer) (s : State) :
    (unlockedAccess t x s).2.locks = s.locks := by
  have quota : ∀ {slot u v}, makeQuota slot u = some v → v.locks = u.locks := by
    intro slot u v h
    unfold makeQuota at h
    (repeat' split at h) <;> simp only [Option.some.injEq, reduceCtorEq] at h <;> subst h <;> simp
  have take : ∀ {u v i}, takeLine u = some (i, v) → v.locks = u.locks := by
    intro u v i h
    unfold takeLine at h
    (repeat' split at h) <;> simp only [Option.some.injEq, Prod.mk.injEq, reduceCtorEq] at h <;> obtain ⟨_, rfl⟩ := h <;> simp
  have miss : ∀ f r u, (readMiss t f r u).locks = u.locks := by
    intro f r u
    unfold readMiss
    split
    · simp
    · split
      · rfl
      · split
        · rfl
        · next hq =>
          split
          · rfl
          · next ht => simp [take ht, quota hq]
  have ahead : ∀ b n u, (readAhead b n u).locks = u.locks := by
    intro b n u
    unfold readAhead
    (repeat' split) <;> simp
  unfold unlockedAccess
  split
  · split
    · unfold directRead
      (repeat' split) <;> simp [miss]
    · unfold bufferedRead
      (repeat' split) <;> simp [bufferedMiss, consumeLine, miss, ahead]
      split <;> simp
  · split
    · unfold directWrite
      dsimp only
      (repeat' split) <;> simp
    · unfold bufferedWrite gatherAnew
      dsimp only
      split
      · rfl
      · split
        · simp
        · split
          · simp
          · split
            · simp
            · next ht => simp [take ht]

theorem serve_moves (t : Translation) (x : Transfer) (lock : Bool) (s : State) : EpisodeMoves s (serve t x lock s).2 := by
  unfold serve
  split
  · exact lockedAccess_moves _ _ _
  · exact episodeMoves_of_eq (unlockedAccess_locks _ _ _)

theorem windowAccess_moves (slot : Slot) (a : CardAddr) (x : Transfer) (lock : Bool) (s : State) :
    EpisodeMoves s (windowAccess slot a x lock s).2 := by
  unfold windowAccess
  dsimp only
  split
  · exact episodeMoves_of_eq (by simp)
  · split
    · exact episodeMoves_of_eq (by simp)
    · unfold translateAndServe
      split
      · exact episodeMoves_of_eq (by simp)
      · exact serve_moves _ _ _ _

theorem handOver_moves (r : Request) (tag : TagRef) (result : FetchResult) (s : State) :
    EpisodeMoves s (handOver r tag result s) := by
  unfold handOver
  split
  · exact episodeMoves_of_eq (by simp)
  · unfold heldResult
    (repeat' split) <;> first | exact episodeMoves_refl s | exact setEpisode_moves _ s | exact postEnd_moves _ s
  · unfold beginResult
    (repeat' split) <;> first
      | exact episodeMoves_refl s
      | exact setEpisode_moves _ s
      | exact postEnd_moves _ s
      | exact toNone_moves s
      | exact episodeMoves_trans ⟨_, _, by simp; exact ⟨rfl, rfl⟩⟩ (toNone_moves _)

theorem finishRequest_moves (i : TagIx) (r : Request) (result : FetchResult) (s : State) :
    EpisodeMoves s (finishRequest i r result s) :=
  episodeMoves_trans (episodeMoves_of_eq (by simp)) (handOver_moves _ _ _ _)

theorem expireEpisode_moves (e : Episode) (s : State) : EpisodeMoves s (expireEpisode e s) := by
  have fault : EpisodeMoves s (takeFault { kind := .exclOverrun, slot := some e.slot } s) := episodeMoves_of_eq (by simp)
  have placed : ∀ (c : Prop) [Decidable c] (left : Episode), EpisodeMoves s
      (if c then setEpisode (some left) (takeFault { kind := .exclOverrun, slot := some e.slot } s)
      else postEnd left (takeFault { kind := .exclOverrun, slot := some e.slot } s)) := by
    intro c _ left
    split
    · exact episodeMoves_trans fault (setEpisode_moves _ _)
    · exact episodeMoves_trans fault (postEnd_moves _ _)
  unfold expireEpisode
  dsimp only
  split
  · split
    · exact episodeMoves_trans fault (setEpisode_moves _ _)
    · exact episodeMoves_trans (t := dropEpisodeDrain e.slot (takeFault { kind := .exclOverrun, slot := some e.slot } s))
        (episodeMoves_of_eq (by simp)) (toNone_moves _)
  · exact placed _ _
  · exact episodeMoves_refl s

/-! ### The invariant -/

theorem lockHeld_iff (s : State) : lockHeld s = true ↔ ∃ d, s.locks.hostLock = .held d := by
  unfold lockHeld
  split <;> simp_all

theorem lockHeld_congr {s t : State} (h : t.locks.hostLock = s.locks.hostLock) : lockHeld t = lockHeld s := by
  simp only [lockHeld, h]

/-- A free or acquiring host lock excludes nothing. -/
theorem lockExclusion_of_not_held {s : State} (h : lockHeld s = false) : LockExclusion s := by
  simp [LockExclusion, h]

/-- The invariant is kept where the host lock stays as it is, no episode begins and the bridge master keeps the bus. -/
theorem lockExclusion_of {s t : State} (h : LockExclusion s) (hl : t.locks.hostLock = s.locks.hostLock)
    (he : s.locks.episode = none → t.locks.episode = none) (ho : s.bus.owner = .master → t.bus.owner = .master) :
    LockExclusion t := by
  intro held
  rw [lockHeld_congr hl] at held
  exact ⟨he (h held).1, ho (h held).2⟩

theorem lockExclusion_congr {s t : State} (h : LockExclusion s) (hl : t.locks = s.locks) (hb : t.bus.owner = s.bus.owner) :
    LockExclusion t :=
  lockExclusion_of h (by rw [hl]) (fun e => by rw [hl, e]) (fun e => by rw [hb, e])

/-- Nothing of a slot's ownership concerns the bridge master's. -/
theorem endOwnership_owner (slot : Slot) (s : State) (h : s.bus.owner = .master) :
    (endOwnership slot s).bus.owner = .master := by
  simp [endOwnership, h]

theorem endOwnership_lockExclusion (slot : Slot) {s : State} (h : LockExclusion s) : LockExclusion (endOwnership slot s) :=
  lockExclusion_of h (by simp) (fun e => by simpa using e) (endOwnership_owner slot s)

/-- The bridge master releases the bus only where the host lock is not HELD (R83). -/
theorem releaseMaster_lockExclusion {s : State} (h : LockExclusion s) : LockExclusion (releaseMaster s) := by
  unfold releaseMaster
  split
  · exact lockExclusion_congr h rfl rfl
  · next hl => exact lockExclusion_of_not_held (by simpa [lockHeld] using hl)

theorem presentAccess_lockExclusion (a : Downstream) {s : State} (h : LockExclusion s) :
    LockExclusion (presentAccess a s) :=
  lockExclusion_congr h (by simp) (by simp [presentAccess])

theorem linkLoss_lockExclusion (training reset : Bool) (s : State) : LockExclusion (linkLoss training reset s) :=
  lockExclusion_of_not_held (by simp [lockHeld, linkLoss, lossLocks])

theorem owner_of_fence (slot : Slot) (s : State) : (fence slot s).bus.owner = s.bus.owner := by
  unfold fence
  dsimp only
  split <;> simp [setSlot]

theorem takeFault_owner (r : FaultReport) (s : State) : (takeFault r s).bus.owner = s.bus.owner := by
  simp only [takeFault, applyAutofence, admitFault_frame]
  (repeat' split) <;> simp [owner_of_fence]

/-- With no episode there is nothing for a report, a result or an expiry to end (R101). -/
theorem lockReport_none {slot : Slot} {s : State} (h : s.locks.episode = none) : lockReport slot s = s := by
  simp [lockReport, h]

theorem episodeDrained_none {slot : Slot} {s : State} (h : s.locks.episode = none) : episodeDrained slot s = s := by
  simp [episodeDrained, h]

theorem handOver_none (r : Request) (tag : TagRef) (result : FetchResult) {s : State} (h : s.locks.episode = none) :
    (handOver r tag result s).locks.episode = none := by
  unfold handOver
  split
  · simpa using h
  · simp [heldResult, h]
  · simp [beginResult, h]

theorem hostLock_of_moves {s t : State} (h : EpisodeMoves s t) : t.locks.hostLock = s.locks.hostLock := by
  obtain ⟨_, _, h⟩ := h
  rw [h]

theorem finishRequest_lockExclusion (i : TagIx) (r : Request) {result : FetchResult} {s : State} (hh : result.harmless)
    (h : LockExclusion s) : LockExclusion (finishRequest i r result s) := by
  refine lockExclusion_of h (hostLock_of_moves (finishRequest_moves _ _ _ _)) (fun e => ?_) (fun e => ?_)
  · exact handOver_none _ _ _ (by simpa using e)
  · rw [(finishRequest_changes i r s hh).1 .bus (by simp [noneBlocks])]
    exact e

theorem memData_lockExclusion (p : List Byte) {s : State} (h : LockExclusion s) : LockExclusion (memData p s) := by
  have unexpected : ∀ tag, LockExclusion (takeFault { kind := .unexpectedCompletion, tag := some tag } s) :=
    fun tag => lockExclusion_congr h (by simp) (takeFault_owner _ _)
  unfold memData
  dsimp only
  split
  · split
    · split
      · exact finishRequest_lockExclusion _ _ (completionResult_harmless _ _ _) h
      · exact unexpected _
    · exact unexpected _
  · exact unexpected _

theorem replayDue_lockExclusion {s : State} (h : LockExclusion s) : LockExclusion (replayDue s) := by
  unfold replayDue
  split
  · exact lockExclusion_congr h (by simp) (by simp)
  · exact linkLoss_lockExclusion _ _ _

theorem applyNak_lockExclusion (n : SeqNo) {s : State} (h : LockExclusion s) : LockExclusion (applyNak n s) := by
  have again : ∀ {t : State}, LockExclusion t → LockExclusion (replayIfAny t) := by
    intro t ht
    unfold replayIfAny
    split
    · exact ht
    · exact replayDue_lockExclusion ht
  unfold applyNak
  split
  · split
    · exact again h
    · exact h
  · exact again (lockExclusion_congr h (by simp) (by simp))

/-- A grant under a HELD host lock is the bridge master's, and a HELD host lock begins without an episode (R81, R96). -/
theorem grant_lockExclusion (requests : BitVec 6) {s : State} (h : LockExclusion s) : LockExclusion (grant requests s) := by
  have access : ∀ (held : lockHeld s = true → s.locks.episode = none), LockExclusion (grantAccess s) := by
    intro held
    unfold grantAccess
    split
    · exact fun hl => ⟨by simpa using held (by simpa [lockHeld] using hl), by simp [presentAccess, ownBus]⟩
    · exact h
  have slot : ∀ x, lockHeld s = false → LockExclusion (grantSlot x s) :=
    fun x hl => lockExclusion_of_not_held (by simpa [lockHeld] using hl)
  unfold grant
  split
  · next hl =>
    split
    · exact access fun hl => (h hl).1
    · exact h
  · next hl =>
    have hl : lockHeld s = false := by simpa using hl
    split
    · split
      · exact slot _ hl
      · exact h
    · next he =>
      unfold grantFree
      split
      · exact fun _ => ⟨by simpa [grantLock] using he, by simp [grantLock, ownBus]⟩
      · split
        · exact access fun _ => he
        · split
          · exact slot _ hl
          · exact h

theorem failAccess_lockExclusion (a : Downstream) (code : ResultCode) {s : State} (h : LockExclusion s) :
    LockExclusion (failAccess a code s) := by
  have released : LockExclusion (releaseMaster (setAccess none s)) :=
    releaseMaster_lockExclusion (lockExclusion_congr h (by simp) (by simp))
  unfold failAccess
  dsimp only
  split
  · exact released
  · split <;> exact lockExclusion_congr released (by simp) (by simp)

theorem followAnswer_lockExclusion (a : Downstream) (r : Response) (data : List Byte) {s : State} (h : LockExclusion s) :
    LockExclusion (followAnswer a r data s) := by
  have released : ∀ b, LockExclusion (releaseMaster (setAccess b s)) :=
    fun b => releaseMaster_lockExclusion (lockExclusion_congr h (by simp) (by simp))
  unfold followAnswer
  split
  · split
    · unfold finishWrite
      dsimp only
      split
      · exact released none
      · exact lockExclusion_congr (released none) (by simp) (by simp)
    · unfold finishRead
      dsimp only
      split
      · exact released none
      · split <;> exact lockExclusion_congr (releaseMaster_lockExclusion h) (by simp) (by simp)
  · exact presentAccess_lockExclusion _ h
  · unfold retryAccess
    dsimp only
    split
    · exact released none
    · split
      · exact failAccess_lockExclusion _ _ h
      · split
        · exact presentAccess_lockExclusion _ h
        · exact released _
  · exact failAccess_lockExclusion _ _ h

/-- A slot presents while it owns the bus, so the host lock is not HELD then. -/
theorem slotPresentation_lockExclusion (slot : Slot) (address : BusAddress) (x : Transfer) (lock : Bool) {s : State}
    (h : LockExclusion s) : LockExclusion (after (.slotPresentation slot address x lock) s) := by
  simp only [after, exec, execSlotPresentation]
  split
  · next hp =>
    have owns : s.bus.owner = .slot slot := by
      simp only [mayPresent, Bool.and_eq_true, beq_iff_eq] at hp
      exact hp.1.1
    have free : lockHeld s = false := Bool.eq_false_iff.mpr fun hl => by simpa [owns] using (h hl).2
    have reported : (if lock then s else lockReport slot s).locks.hostLock = s.locks.hostLock := by
      split
      · rfl
      · exact hostLock_of_moves (lockReport_moves slot s)
    generalize (if lock then s else lockReport slot s) = r at reported
    split
    · refine lockExclusion_of_not_held ?_
      have moved := windowAccess_moves slot ‹CardAddr› (cutTransfer (blockLength ‹CardAddr› x) x) lock r
      rw [← free]
      exact lockHeld_congr (by simpa [claimedPresentation, reported] using hostLock_of_moves moved)
    · exact lockExclusion_of_not_held (by rw [← free]; exact lockHeld_congr reported)
  · exact h

theorem after_lockExclusion (i : Instr) (s : State) (h : LockExclusion s) : LockExclusion (after i s) := by
  have same : ∀ t : State, t.locks = s.locks → t.bus.owner = s.bus.owner → LockExclusion t :=
    fun t => lockExclusion_congr h
  by_cases touches : Block.bus ∈ touched i ∨ Block.locks ∈ touched i
  case neg =>
    rw [not_or] at touches
    exact same _ ((after_changes i s).1 .locks touches.2) (congrArg SlotBus.owner ((after_changes i s).1 .bus touches.1))
  cases i with
  | powerOnReset => exact lockExclusion_of_not_held rfl
  | initReceived p =>
    simp only [after, exec, execInitReceived, receive, initFrame]
    split
    · split
      · split
        · exact same _ (by simp) (by simp)
        · exact h
      · split
        · have up := enterUp_changes (initFields p) s
          exact same _ (up.1 .locks (by simp)) (congrArg SlotBus.owner (up.1 .bus (by simp)))
        · exact h
      · exact linkLoss_lockExclusion _ _ s
    · exact same _ (by simp) (by simp)
  | nakReceived p => exact receive_ind h (same _ (by simp) (by simp)) fun _ => applyNak_lockExclusion _ h
  | linkResetReceived p => exact receive_ind h (same _ (by simp) (by simp)) fun _ => linkLoss_lockExclusion _ _ s
  | memDataReceived seq ackSeq p =>
    exact receive_ind h (same _ (by simp) (by simp)) fun _ =>
      sequenced_ind (fun _ _ => same _ rfl rfl) fun _ _ => memData_lockExclusion p (same _ rfl rfl)
  | lossOfSignal =>
    simp only [after, exec, execLossOfSignal]
    split
    · exact linkLoss_lockExclusion _ _ s
    · exact same _ (by simp) (by simp)
    · exact h
  | replayDeadlineExpiry =>
    simp only [after, exec, execReplayDeadlineExpiry]
    split
    · exact replayDue_lockExclusion (same _ (by simp) (by simp))
    · exact h
  | setLimits =>
    refine runHead_ind h fun e rest c f _ hf => ?_
    cases c <;> simp only [reduceCtorEq, Option.some.injEq] at hf
    subst hf
    unfold applyLimits
    dsimp only
    split
    · exact lockExclusion_of h (by simp) (fun e => by simpa using e) (fun e => by simpa using e)
    · exact same _ (by simp) (by simp)
  | slotControlEnable =>
    refine slotCommand_ind h fun e rest slot _ => same _ (by unfold enableSlot; split <;> simp) ?_
    unfold enableSlot
    split <;> simp [setSlot]
  | slotControlDisable =>
    refine slotCommand_ind h fun e rest slot _ => ?_
    unfold disableSlot
    split
    · exact lockExclusion_congr (endOwnership_lockExclusion slot
        (s := holdInReset slot { slotAt slot (beginHead e rest s) with enabled := false, resetDeadline := none }
          (beginHead e rest s)) (same _ (by simp) (by simp [holdInReset]))) (by simp) (by simp)
    · exact same _ (by simp) (by simp)
  | slotControlFence =>
    exact slotCommand_ind h fun e rest slot _ => same _ (by simp) (by simp [owner_of_fence])
  | slotControlUnfence =>
    exact slotCommand_ind h fun e rest slot _ => same _ (by simp [unfence]) (by simp [unfence, setSlot])
  | slotControlReset =>
    refine slotReset_ind h fun e rest slot _ => ?_
    split
    · exact lockExclusion_congr (endOwnership_lockExclusion slot
        (s := holdInReset slot
          { slotAt slot (beginHead e rest s) with resetDeadline := some ((beginHead e rest s).now + Config.slotResetTime) }
          (beginHead e rest s)) (same _ (by simp) (by simp [holdInReset]))) (by simp [beginSlotReset])
        (by simp [beginSlotReset])
    · exact same _ (by simp) (by simp)
  | slotControlClearFaults =>
    exact slotCommand_ind h fun e rest slot _ => same _ (by simp [clearFaults]) (by simp [clearFaults, setSlot])
  | slotControlAutofenceOn =>
    exact slotCommand_ind h fun e rest slot _ => same _ (by simp [setAutofence]) (by simp [setAutofence, setSlot])
  | slotControlAutofenceOff =>
    exact slotCommand_ind h fun e rest slot _ => same _ (by simp [setAutofence]) (by simp [setAutofence, setSlot])
  | cardRead =>
    refine runHead_ind h fun e rest c f _ hf => ?_
    cases c <;> simp only [reduceCtorEq, Option.some.injEq] at hf
    subst hf
    unfold startAccess
    (repeat' split) <;> exact same _ (by simp) (by simp [presentAccess])
  | cardWrite =>
    refine runHead_ind h fun e rest c f _ hf => ?_
    cases c <;> simp only [reduceCtorEq, Option.some.injEq] at hf
    subst hf
    unfold startAccess
    (repeat' split) <;> exact same _ (by simp) (by simp [presentAccess])
  | lockOpen =>
    refine runHead_ind h fun e rest c f _ hf => ?_
    cases c <;> simp only [reduceCtorEq, Option.some.injEq] at hf
    subst hf
    unfold startLockOpen
    split
    · exact lockExclusion_of_not_held (by simp [lockHeld])
    · exact same _ (by simp) (by simp)
    · exact same _ (by simp) (by simp)
  | lockClose =>
    refine runHead_ind h fun e rest c f _ hf => ?_
    cases c <;> simp only [reduceCtorEq, Option.some.injEq] at hf
    subst hf
    unfold startLockClose
    split
    · exact lockExclusion_of_not_held (by simp [lockHeld])
    · exact same _ (by simp) (by simp)
  | bridgeReset =>
    refine runHead_ind h fun e rest c f _ hf => ?_
    cases c <;> simp only [reduceCtorEq, Option.some.injEq] at hf
    subst hf
    exact lockExclusion_of_not_held (by simp [lockHeld, startBridgeReset, resetBlocks, LockUnit.reset])
  | slotPresentation slot address x lock => exact slotPresentation_lockExclusion slot address x lock h
  | lockRelease slot =>
    refine lockExclusion_of h (hostLock_of_moves (lockReport_moves slot s)) (fun e => ?_) (fun e => ?_)
    · simp [after, exec, execLockRelease, lockReport_none e, e]
    · simp [after, exec, execLockRelease, e]
  | busGrant requests =>
    simp only [after, exec, execBusGrant]
    split
    · exact grant_lockExclusion requests h
    · exact h
  | grantIdleTimeout =>
    simp only [after, exec, execGrantIdleTimeout]
    split
    · exact endOwnership_lockExclusion _ (same _ (by simp) (by simp))
    · exact h
  | requestDropped slot =>
    simp only [after, exec, execRequestDropped]
    split
    · exact endOwnership_lockExclusion _ h
    · exact h
  | presentationAnswer r data =>
    simp only [after, exec, execPresentationAnswer]
    split
    · split
      · exact followAnswer_lockExclusion _ _ _ h
      · exact h
    · exact h
  | noClaim =>
    simp only [after, exec, execNoClaim]
    split
    · split
      · exact failAccess_lockExclusion _ _ (same _ (by simp) (by simp))
      · exact h
    · exact h
  | slotResetEnd slot =>
    simp only [after, exec, execSlotResetEnd, endSlotReset]
    (repeat' split) <;> exact same _ (by simp) (by simp [setSlot])
  | readTimeoutExpiry tag =>
    simp only [after, exec, execReadTimeoutExpiry]
    split
    · exact finishRequest_lockExclusion _ _ (by simp [FetchResult.harmless, FaultKind.fencing]) (same _ (by simp) (by simp))
    · exact h
  | episodeLimitExpiry =>
    simp only [after, exec, execEpisodeLimitExpiry]
    split
    · next e he =>
      split
      · next d _ =>
        have moved := expireEpisode_moves e (passTo d s)
        refine lockExclusion_of_not_held ?_
        rw [lockHeld_congr (hostLock_of_moves moved)]
        exact Bool.eq_false_iff.mpr fun hl => by simpa [he] using (h (by simpa [lockHeld] using hl)).1
      · exact h
    · exact h
  | lockLimitExpiry =>
    simp only [after, exec, execLockLimitExpiry]
    split
    · refine lockExclusion_of_not_held ?_
      unfold expireLock
      dsimp only
      split <;> simp [lockHeld]
    · exact h
  | slotDrainComplete slot =>
    simp only [after, exec, execSlotDrainComplete]
    have event : (reportEventDrain slot s).locks = s.locks ∧ (reportEventDrain slot s).bus = s.bus := by
      unfold reportEventDrain
      dsimp only
      split <;> simp
    unfold reportEpisodeDrain
    dsimp only
    split
    · refine lockExclusion_of h ?_ (fun e => ?_) (fun e => ?_)
      · rw [hostLock_of_moves (episodeDrained_moves _ _)]
        simp [event]
      · rw [episodeDrained_none] <;> simpa [event] using e
      · simpa [event] using e
    · exact same _ event.1 (by rw [event.2])
  | exclEndPlaced =>
    simp only [after, exec, execExclEndPlaced]
    split
    · split
      · exact lockExclusion_of h (by simp [joinEnd_locks]) (fun _ => by simp [joinEnd_locks]) (fun e => by simpa using e)
      · exact h
    · exact h
  | exclBeginAllocation =>
    simp only [after, exec, execExclBeginAllocation]
    split
    · next e he =>
      split
      · exact lockExclusion_of h (hostLock_of_moves (episodeDrained_moves _ _)) (fun n => by simp [he] at n)
          (fun e => by simpa using e)
      · exact h
    · exact h
  | slotTransactionAnswer r =>
    simp only [after, exec, execSlotTransactionAnswer, targetAnswer]
    have ends : ∀ slot, LockExclusion (endOwnership slot s) := fun slot => endOwnership_lockExclusion slot h
    (repeat' split) <;> first | exact h | exact ends _
  | slotTransactionNoClaim =>
    simp only [after, exec, execSlotTransactionNoClaim]
    split
    · exact endOwnership_lockExclusion _ (same _ (by simp) (by simp))
    · exact h
  | _ => exact absurd touches (by simp [touched, sendBlocks])

end Sys2Proof.Machine

namespace Sys2Proof

open Sys2Proof.Machine

/-- Settles O6: a slot acts while it owns the bus, which a HELD host lock denies it, and the lock is granted without an
episode. -/
theorem stepKeepsLockExclusion : Obligations.StepKeepsLockExclusion :=
  fun _ _ hs h => step_keeps (fun _ _ h => h) (fun _ _ h => h) after_lockExclusion hs h

end Sys2Proof
end

section
/-! What a step can do to the Page Map, the Staging Unit and the Upstream Tracker, said once: every command is a sequence of a
few kinds of move. The invariants of lines, tags and posted entries are derived from the moves. -/

namespace Sys2Proof.Machine

/-! ### The moves -/

/-- The Page Map, the Staging Unit and the Upstream Tracker are the same in both states. -/
def SameStore (s t : State) : Prop := t.pageMap = s.pageMap ∧ t.staging = s.staging ∧ t.tracker = s.tracker

/-- Whether a request is the fetch of a line (R49). -/
def Request.fetches (q : Request) : Bool :=
  match q.purpose with
  | .lineFetch _ => true
  | _ => false

/-- One move of lines, tags, posted entries or map entries, with the conditions under which the steps of the block make it. -/
inductive Move : State → State → Prop
  /-- Other blocks change. -/
  | same {s t : State} (h : SameStore s t) : Move s t
  /-- A line is closed, if it is GATHERING (R36). -/
  | close (s : State) (i : LineIx) : Move s (closeLine s i)
  /-- Read lines are freed (R38). -/
  | free (s : State) (p : Line → Bool) : Move s (freeReads p s)
  /-- A VALID or ERROR line becomes FREE (R25, R27, R29, R31). -/
  | drop (s : State) (i : LineIx) (h : i ∈ s.staging.lru ∨ (lineAt i s).reclaimable = true) : Move s (setLine i .free s)
  /-- A VALID line is consumed (R29). -/
  | consume {s : State} {i : LineIx} {b : Binding} {f : FetchSpan} {fetched : List Byte} {c : Nat} (next : Nat)
      (h : lineAt i s = .valid b f fetched c) : Move s (setLine i (.valid b f fetched next) s)
  /-- Bytes are merged into a GATHERING line (R33). -/
  | merge {s : State} {i : LineIx} {b : Binding} {data : Table Byte 64} {v : BitVec 64} {d : Time} (data' : Table Byte 64)
      (v' : BitVec 64) (d' : Time) (h : lineAt i s = .gathering b data v d) :
      Move s (setLine i (.gathering b data' v' d') s)
  /-- A FREE line is bound GATHERING (R33). -/
  | gather {s : State} {i : LineIx} {b : Binding} (data : Table Byte 64) (v : BitVec 64) (d : Time)
      (unused : lineAt i s = .free)
      (alone : ∀ j, (lineAt j s).isGathering = true → (lineAt j s).ofSlot b.slot = false)
      (new : ∀ j, (lineAt j s).isWrite = true → (lineAt j s).ofSlotLine b.slot b.hostLine = false)
      (cur : current b s = true) : Move s (setLine i (.gathering b data v d) s)
  /-- A read that misses gives up lines, takes a line and binds it FETCHING under a new tag (R25, R27, R28, R30, R31). -/
  | fetch {r u v : State} {i : LineIx} {b : Binding} {k : TagIx} (f : FetchSpan) (readStart : Option Nat) (p : Line → Bool)
      (dropped : u = r ∨ ∃ j, (lineAt j r).reclaimable = true ∧ u = setLine j .free r)
      (taken : TakesLine b.slot i (freeReads p u) v) (tag : lowestFreeTag r = some k) (cur : current b r = true)
      (new : LinesCurrent r → LinesDistinct r → ∀ j, (lineAt j (freeReads p u)).isRead = true →
        (lineAt j (freeReads p u)).ofSlotLine b.slot b.hostLine = true → (lineAt j (freeReads p u)).isStale = true) :
      Move r (bindFetch i b f readStart v)
  /-- A LINE_FETCH tag retires and its result reaches the line (R51, R32). -/
  | result {s : State} {k : TagIx} {q : Request} {d : Time} {i : LineIx} (x : FetchResult)
      (state : (s.tracker.tags.get k).state = .outstanding q d) (purpose : q.purpose = .lineFetch i) :
      Move s (lineResult i x (retireTag k s))
  /-- A tag of the Lock Unit retires (R51). -/
  | retire {s : State} {k : TagIx} {q : Request} {d : Time}
      (state : (s.tracker.tags.get k).state = .outstanding q d) (purpose : q.fetches = false) : Move s (retireTag k s)
  /-- A tag is allocated to the Lock Unit (R50). -/
  | allocate {s t : State} {q : Request} {tag : TagRef} (h : allocateTag q s = some (tag, t))
      (purpose : q.fetches = false) : Move s t
  /-- The head of the request queue is transmitted (R53). -/
  | send {s : State} {k : TagIx} {rest : List TagIx} {q : Request} (d : Time)
      (queue : s.tracker.requestQueue = k :: rest) (state : (s.tracker.tags.get k).state = .waiting q) :
      Move s (s.setTracker
        { s.tracker with
          requestQueue := rest
          tags := s.tracker.tags.set k ⟨.outstanding q d, (s.tracker.tags.get k).generation⟩ })
  /-- An entry joins the posted-write queue (R63). -/
  | join {s : State} (slot : Slot) (kind : PostedKind) (a : HostAddr) (locked : Bool)
      (room : s.tracker.posted.length < 16) : Move s (joinPosted slot kind a locked s)
  /-- The head of the posted-write queue leaves (R65). -/
  | leave {s : State} {p : PostedEntry} {rest : List PostedEntry} (h : s.tracker.posted = p :: rest) :
      Move s (leavePosted rest s)
  /-- The head of the closed-order list moves (R37). -/
  | moveClosed {s : State} (room : s.tracker.posted.length < 16) : Move s (moveClosed s)
  /-- Drains begin, run on, complete or end (R39, R40, R41). -/
  | marks (s : State) (d : Table SlotDrains 6) (g m : Option Mark) :
      Move s (s.setStaging { s.staging with slotDrains := d, globalDrain := g, mapBarrier := m })
  /-- The settings of the Staging Unit change (R46). -/
  | buffering {s : State} (on ahead : Bool) (g : Nat) (h : g = s.staging.gatherIdle ∨ (1 ≤ g ∧ g ≤ 32)) :
      Move s (s.setStaging { s.staging with buffering := on, readAhead := ahead, gatherIdle := g })
  /-- The marks of write hold and the read timeout change (R161). -/
  | limits {s : State} (high low timeout : Nat) (hold : Bool) (hl : low < high)
      (hh : high = s.tracker.holdHigh ∨ (2 ≤ high ∧ high ≤ 16))
      (ht : timeout = s.tracker.readTimeout ∨ (1 ≤ timeout ∧ timeout ≤ 250)) :
      Move s (s.setTracker
        { s.tracker with holdHigh := high, holdLow := low, readTimeout := timeout, writeHold := hold })
  /-- The window changes (R16). -/
  | window {s : State} (on : Bool) (base : CardAddr) (h : base = s.pageMap.base ∨ base.toNat % 0x800000 = 0) :
      Move s (s.setPageMap { s.pageMap with on := on, base := base })
  /-- Map entries change, but for the Epochs of those to which a line stays bound (R11, R13, R14). -/
  | entries {s : State} (table : Table MapEntry 512)
      (h : ∀ (i : LineIx) (b : Binding), (lineAt i s).binding = some b → (lineAt i s).isClosed = false →
        (lineAt i s).isStale = false → current b s = true →
        (table.get b.mapIndex).epoch = (s.pageMap.entries.get b.mapIndex).epoch) :
      Move s (s.setPageMap { s.pageMap with entries := table })
  /-- The link is lost (R47, R70). -/
  | loss (s : State) : Move s (lossTracker (lossStaging s))
  /-- The bridge is reset (R48, R71, R72). -/
  | reset {s t : State} (staging : t.staging = Staging.reset) (tags : ∀ k, (t.tracker.tags.get k).state = .free)
      (queue : t.tracker.requestQueue = []) (posted : t.tracker.posted = [])
      (limits : t.tracker.holdHigh = 12 ∧ t.tracker.holdLow = 4 ∧ t.tracker.readTimeout = 20)
      (base : t.pageMap.base = s.pageMap.base ∨ t.pageMap.base = 0) : Move s t

/-- A sequence of moves. -/
def Moves : State → State → Prop := Relation.ReflTransGen Move

theorem moves_refl (s : State) : Moves s s := Relation.ReflTransGen.refl

theorem moves_of_move {s t : State} (h : Move s t) : Moves s t := Relation.ReflTransGen.single h

theorem moves_trans {s t u : State} (h : Moves s t) (g : Moves t u) : Moves s u := Relation.ReflTransGen.trans h g

theorem moves_same {s t : State} (h : SameStore s t) : Moves s t := moves_of_move (.same h)

/-- What every move keeps, a sequence of moves keeps. -/
theorem moves_keep {P : State → Prop} (each : ∀ s t, Move s t → P s → P t) {s t : State} (h : Moves s t) (hs : P s) :
    P t := by
  induction h with
  | refl => exact hs
  | tail _ move ih => exact each _ _ move ih

/-! ### Lines -/

theorem foldl_closeLine_moves (order : List LineIx) (s : State) : Moves s (order.foldl closeLine s) := by
  induction order generalizing s with
  | nil => exact moves_refl s
  | cons i rest ih => exact moves_trans (moves_of_move (.close s i)) (ih _)

theorem closeGathering_moves (slot : Slot) (s : State) : Moves s (closeGathering slot s) := foldl_closeLine_moves _ s

theorem closeWhere_moves (p : Binding → Bool) (s : State) : Moves s (closeWhere p s) :=
  moves_trans (t := (freeOrder s.freeIndex (gatheringWhere p s)).foldl closeLine s) (foldl_closeLine_moves _ s)
    (moves_same ⟨rfl, rfl, rfl⟩)

theorem freeReads_moves (p : Line → Bool) (s : State) : Moves s (freeReads p s) := moves_of_move (.free s p)

theorem quiesceSlot_moves (slot : Slot) (s : State) : Moves s (quiesceSlot slot s) :=
  moves_trans (closeGathering_moves slot s) (freeReads_moves _ _)

theorem setDrains_moves (slot : Slot) (d : SlotDrains) (s : State) : Moves s (setDrains slot d s) :=
  moves_of_move (.marks s (s.staging.slotDrains.set slot d) s.staging.globalDrain s.staging.mapBarrier)

theorem startSlotDrain_moves (r : Requester) (slot : Slot) (s : State) : Moves s (startSlotDrain r slot s) := by
  unfold startSlotDrain
  dsimp only
  split <;> exact moves_trans (closeGathering_moves slot s) (setDrains_moves _ _ _)

theorem startGlobalDrain_moves (s : State) : Moves s (startGlobalDrain s) :=
  moves_trans (closeWhere_moves _ s)
    (moves_of_move (.marks _ _ (globalMark (closeWhere (fun _ => true) s)) _))

theorem startMapBarrier_moves (p : Binding → Bool) (s : State) : Moves s (startMapBarrier p s) :=
  moves_trans (moves_trans (closeWhere_moves p s) (freeReads_moves _ _))
    (moves_of_move (.marks _ _ _ (barrierMark p (freeReads (fun l => l.binding.any p) (closeWhere p s)))))

theorem drainAndFree_moves (s : State) : Moves s (drainAndFree s) :=
  moves_trans (startGlobalDrain_moves s) (freeReads_moves _ _)

theorem fence_moves (slot : Slot) (s : State) : Moves s (fence slot s) := by
  unfold fence
  dsimp only
  split
  · exact moves_refl s
  · exact moves_trans (moves_same (by simp [SameStore])) (quiesceSlot_moves slot _)

theorem takeFault_moves (r : FaultReport) (s : State) : Moves s (takeFault r s) := by
  have fenced : Moves (markSummary r s) (applyAutofence r (markSummary r s)) := by
    unfold applyAutofence
    split
    · split
      · exact fence_moves _ _
      · exact moves_refl _
    · exact moves_refl _
  have admitted : ∀ f u, SameStore u (admitFault r f u) := fun f u => by simp [SameStore]
  have marked : SameStore s (markSummary r s) := by simp [SameStore]
  exact moves_trans (moves_same marked) (moves_trans fenced (moves_same (admitted _ _)))

theorem mergeInto_moves (i : LineIx) (offset : Nat) (bytes : List Byte) (s : State) :
    Moves s (mergeInto i offset bytes s) := by
  unfold mergeInto
  split
  · next h =>
    dsimp only
    split
    · exact moves_trans (moves_of_move (.merge _ _ _ h)) (moves_of_move (.close _ i))
    · exact moves_of_move (.merge _ _ _ h)
  · exact moves_refl s

/-! ### The ranges of a command's fields -/

/-- What the checks that need no state make sure of for the later proofs: Base at a multiple of 8 MiB, GatherIdle and the
limits in their ranges (R16, R45, R160). -/
def Command.InRanges : Command → Prop
  | .windowSet _ base => base.toNat % 0x800000 = 0
  | .bufferControl _ idle _ => ∀ g, idle = some g → 1 ≤ g ∧ g ≤ 32
  | .setLimits l => l.inRanges = true
  | _ => True

theorem parseWindowSet_inRanges {args : List Byte} {c : Command} (h : parseWindowSet args = some c) : c.InRanges := by
  unfold parseWindowSet at h
  split at h
  · next fl _ _ _ b3 b2 b1 b0 =>
    split at h
    · split at h
      · next aligned =>
        cases h
        simp only [Command.InRanges, BitVec.toNat_ofNat]
        omega
      · cases h
    · cases h
      rfl
  · cases h

theorem parseBufferControl_inRanges {args : List Byte} {c : Command} (h : parseBufferControl args = some c) :
    c.InRanges := by
  unfold parseBufferControl at h
  split at h
  · dsimp only at h
    split at h
    · cases h
    · split at h
      · cases h
      · next range =>
        cases h
        intro g hg
        split at hg
        · next present =>
          cases hg
          exact not_not.mp fun out => range ⟨present, out⟩
        · cases hg
  · cases h

theorem parseSetLimits_inRanges {args : List Byte} {c : Command} (h : parseSetLimits args = some c) : c.InRanges := by
  unfold parseSetLimits at h
  split at h
  · dsimp only at h
    obtain ⟨range, hc⟩ := Option.ite_none_right_eq_some.mp h
    exact Option.some.inj hc ▸ range
  · cases h

theorem parseSlotControl_inRanges {args : List Byte} {c : Command} (h : parseSlotControl args = some c) : c.InRanges := by
  unfold parseSlotControl at h
  split at h
  · split at h
    · cases h
      trivial
    · cases h
  · cases h

theorem parseBare_inRanges {d c : Command} {args : List Byte} (h : parseBare d args = some c) (hd : d.InRanges) :
    c.InRanges := by
  cases args with
  | nil => exact Option.some.inj h ▸ hd
  | cons _ _ => cases h

theorem map_inRanges {α : Type} {o : Option α} {f : α → Command} {c : Command} 
    (h : o.map f = some c) (hf : ∀ a, (f a).InRanges) : c.InRanges := by
  obtain ⟨a, -, rfl⟩ := Option.map_eq_some_iff.mp h
  exact hf a

/-- Every command that the check accepts has its fields in their ranges (R155 row 6). -/
theorem parseCommand_inRanges {code : Byte} {args : List Byte} {c : Command} (h : parseCommand code args = some c) :
    c.InRanges := by
  unfold parseCommand at h
  split at h
  case h_1 =>
    unfold parseMapWrite at h
    (repeat' split at h) <;> cases h
    trivial
  case h_2 =>
    unfold parseMapRead at h
    (repeat' split at h) <;> cases h
    trivial
  case h_3 =>
    unfold parseMapInvalidate at h
    (repeat' split at h) <;> cases h
    trivial
  case h_4 => exact parseWindowSet_inRanges h
  case h_5 => exact parseBufferControl_inRanges h
  case h_6 => exact parseSetLimits_inRanges h
  case h_7 => exact parseSlotControl_inRanges h
  case h_8 =>
    unfold parseCardRead at h
    split at h
    · exact map_inRanges h fun _ => trivial
    · cases h
  case h_9 =>
    unfold parseCardWrite at h
    (repeat' split at h)
    · exact map_inRanges h fun _ => trivial
    all_goals cases h
  case h_10 | h_11 | h_14 => exact parseBare_inRanges h trivial
  case h_12 =>
    unfold parseEventAck at h
    split at h
    · exact map_inRanges h fun _ => trivial
    · cases h
  case h_13 =>
    unfold parseStatusQuery at h
    split at h
    · exact map_inRanges h fun _ => trivial
    · cases h
  case h_15 => cases h
/-! ### Map commands -/

/-- What quieting leaves current, open and not stale lies outside the range (R14, R41). -/
theorem quieted_outside {p : Binding → Bool} {l : Line} {b : Binding} (hb : (quieted p l).binding = some b)
    (hc : (quieted p l).isClosed = false) (hs : (quieted p l).isStale = false) : p b = false := by
  cases l with
  | free => simp [quieted, Line.binding] at hb
  | fetching b' f r stale tag => simp_all [quieted, Line.binding, Line.isStale]
  | valid b' f d c => cases h : p b' <;> simp_all [quieted, Line.binding]
  | error b' f tag => cases h : p b' <;> simp_all [quieted, Line.binding]
  | gathering b' d v t => cases h : p b' <;> simp_all [quieted, Line.binding, Line.isClosed]
  | closed b' d v => simp [quieted, Line.isClosed] at hc

/-- The map barrier begun and the entries changed, where only covered entries change their Epoch (R11, R13, R14). -/
theorem startMap_moves {first count : Nat} {table : Table MapEntry 512} {s : State}
    (h : ∀ i : EntryIx, covers first count i.val = false → (table.get i).epoch = (s.pageMap.entries.get i).epoch) :
    Moves s (awaitBarrier ((startMapBarrier (barrierCovers s.pageMap first count) s).setPageMap
      { s.pageMap with entries := table })) := by
  obtain ⟨⟨lines, _⟩, _⟩ := startMapBarrier_spec (barrierCovers s.pageMap first count) s
  have map : (startMapBarrier (barrierCovers s.pageMap first count) s).pageMap = s.pageMap := by simp
  have change := Move.entries (s := startMapBarrier (barrierCovers s.pageMap first count) s) table (by
    intro i b hb hc hs cur
    rw [lines] at hb hc hs
    have outside := quieted_outside hb hc hs
    rw [map]
    refine h b.mapIndex ?_
    simp only [current, map, beq_iff_eq] at cur
    simpa [barrierCovers, cur] using outside)
  rw [map] at change
  exact moves_trans (startMapBarrier_moves _ s) (moves_trans (moves_of_move change) (moves_same (by simp [SameStore])))

theorem startMapWrite_moves (first : Nat) (records : List EntryFields) (s : State) :
    Moves s (startMapWrite first records s) := by
  refine startMap_moves fun i hi => ?_
  simp only [writeEntries, Table.get_mapIx]
  split
  · next hf =>
    have : records.length ≤ i.val - first := by
      simp only [covers, Bool.and_eq_false_imp, decide_eq_true_eq, decide_eq_false_iff_not] at hi
      have := hi hf
      omega
    simp [List.getElem?_eq_none this]
  · rfl

theorem startMapInvalidate_moves (first count : Nat) (s : State) : Moves s (startMapInvalidate first count s) := by
  refine startMap_moves fun i hi => ?_
  simp [invalidateEntries, hi]

theorem startWindowSet_moves {on : Bool} {base : CardAddr} (s : State) (h : base.toNat % 0x800000 = 0) :
    Moves s (startWindowSet on base s) := by
  refine moves_trans (moves_of_move (.window on (if on then base else s.pageMap.base) ?_))
    (moves_trans (drainAndFree_moves _) (moves_same (by simp [SameStore, startWindowSet])))
  cases on <;> simp [h]

theorem startWaiting_moves (s : State) : Moves s (startWaiting s) := by
  unfold startWaiting
  split
  · next e _ =>
    split
    · split
      · next start hstart =>
        obtain ⟨c, hc, hm⟩ := Option.bind_eq_some_iff.mp hstart
        refine moves_trans (moves_same (t := setWait .none s) (by simp [SameStore])) ?_
        cases c with
        | mapWrite first records => exact Option.some.inj hm ▸ startMapWrite_moves _ _ _
        | mapInvalidate first count => exact Option.some.inj hm ▸ startMapInvalidate_moves _ _ _
        | windowSet on base => exact Option.some.inj hm ▸ startWindowSet_moves _ (parseCommand_inRanges hc)
        | _ => simp [mapStart] at hm
      · exact moves_refl s
    · exact moves_refl s
  · exact moves_refl s

/-! ### The episode -/

theorem postedRoom_iff {s : State} : postedRoom s = true ↔ s.tracker.posted.length < 16 := by
  unfold postedRoom
  exact decide_eq_true_iff

theorem unreservedRoom_lt {s : State} (h : unreservedRoom s = true) : s.tracker.posted.length < 16 := by
  unfold unreservedRoom at h
  exact postedRoom_iff.mp (Bool.and_eq_true_iff.mp h).1

theorem toNone_storeMoves (s : State) : Moves s (toNone s) :=
  moves_trans (moves_same (t := setEpisode none s) (by simp [SameStore])) (startWaiting_moves _)

theorem postEnd_storeMoves (e : Episode) (s : State) : Moves s (postEnd e s) := by
  unfold postEnd
  split
  · next room =>
    exact moves_trans (moves_of_move (.join _ _ _ _ (postedRoom_iff.mp room)))
      (toNone_storeMoves _)
  · exact moves_same (by simp [SameStore])

theorem dropEpisodeDrain_moves (slot : Slot) (s : State) : Moves s (dropEpisodeDrain slot s) := setDrains_moves _ _ s

theorem episodeDrained_storeMoves (slot : Slot) (s : State) : Moves s (episodeDrained slot s) := by
  unfold episodeDrained
  split
  · split
    · unfold askBegin
      split
      · next h => exact moves_trans (moves_of_move (.allocate h rfl)) (moves_same (by simp [SameStore]))
      · exact moves_refl s
    · exact moves_refl s
  · exact moves_refl s

theorem beginEpisode_storeMoves (t : Translation) (s : State) : Moves s (beginEpisode t s) := by
  unfold beginEpisode
  dsimp only
  have begun : ∀ e, Moves s (startSlotDrain .episode t.slot (setEpisode e s)) := fun e =>
    moves_trans (moves_same (t := setEpisode e s) (by simp [SameStore])) (startSlotDrain_moves _ _ _)
  split
  · exact moves_trans (begun _) (episodeDrained_storeMoves _ _)
  · exact begun _

theorem lockReport_storeMoves (slot : Slot) (s : State) : Moves s (lockReport slot s) := by
  unfold lockReport
  split
  · exact moves_refl s
  · split
    · exact moves_refl s
    · split
      · split
        · exact moves_same (by simp [SameStore])
        · exact moves_trans (dropEpisodeDrain_moves slot s) (toNone_storeMoves _)
      · split
        · exact moves_refl s
        · exact postEnd_storeMoves _ s
      · exact moves_refl s

theorem openLockedRead_storeMoves (e : Episode) (t : Translation) (n : Nat) (s : State) :
    Moves s (openLockedRead e t n s) := by
  unfold openLockedRead
  refine moves_trans (moves_same (t := setEpisode (some { e with heldRead := none }) s) (by simp [SameStore])) ?_
  dsimp only
  split
  · exact moves_refl _
  · split
    · next h => exact moves_trans (moves_of_move (.allocate h rfl)) (moves_same (by simp [SameStore]))
    · exact moves_refl _

theorem lockedRead_storeMoves (e : Episode) (t : Translation) (n : Nat) (s : State) :
    Moves s (lockedRead e t n s).2 := by
  unfold lockedRead
  split
  · exact moves_refl s
  · split
    · exact openLockedRead_storeMoves _ _ _ s
    · split
      · exact moves_refl s
      · split
        · exact moves_same (by simp [SameStore])
        · exact openLockedRead_storeMoves _ _ _ s
      · split
        · exact moves_same (by simp [SameStore])
        · exact openLockedRead_storeMoves _ _ _ s

theorem postWrite_moves (slot : Slot) (a : HostAddr) (bytes : List Byte) (locked : Bool) {s : State}
    (room : s.tracker.posted.length < 16) : Moves s (postWrite slot a bytes locked s) :=
  moves_trans (moves_of_move (.join slot (.write (byteSpan (a.toNat % 64) bytes.length)
    (mergeBytes (freeBytes s.freeIndex) (a.toNat % 64) bytes)) a locked room)) (moves_same (by simp [SameStore, postWrite]))

theorem lockedWrite_storeMoves (e : Episode) (t : Translation) (bytes : List Byte) (s : State) :
    Moves s (lockedWrite e t bytes s).2 := by
  unfold lockedWrite
  split
  · exact moves_refl s
  · split
    · exact moves_refl s
    · split
      · exact moves_refl s
      · split
        · exact moves_refl s
        · next room =>
          rw [not_or] at room
          exact moves_trans (moves_same (t := setEpisode (some { e with heldRead := none }) s) (by simp [SameStore]))
            (postWrite_moves _ _ _ _ (postedRoom_iff.mp (by simpa [postedRoom] using room.2)))

theorem lockedAccess_storeMoves (t : Translation) (x : Transfer) (s : State) : Moves s (lockedAccess t x s).2 := by
  unfold lockedAccess
  have start : Moves s (freeSlotReads t.slot (closeGathering t.slot s)) := quiesceSlot_moves t.slot s
  dsimp only
  split
  · unfold lockedInNone
    split
    · exact moves_trans start (moves_same (by simp [SameStore]))
    · exact moves_trans start (beginEpisode_storeMoves _ _)
  · split
    · exact start
    · split
      · exact start
      · split
        · exact moves_trans start (lockedRead_storeMoves _ _ _ _)
        · exact moves_trans start (lockedWrite_storeMoves _ _ _ _)
      · exact start

/-! ### Unlocked accesses -/

/-- A line that `takeLine` gives is FREE, and was FREE or the head of the LRU order (R25). -/
theorem takeLine_moves {s t : State} {i : LineIx} (h : takeLine s = some (i, t)) :
    Moves s t ∧ lineAt i t = .free ∧ t.pageMap = s.pageMap ∧ ∀ j, lineAt j t = lineAt j s ∨ lineAt j t = .free := by
  unfold takeLine at h
  split at h
  · next hf =>
    cases h
    have := findLine_some hf
    exact ⟨moves_refl s, by revert this; cases lineAt i s <;> simp [Line.isFree], rfl, fun _ => .inl rfl⟩
  · split at h
    · next rest hl =>
      cases h
      refine ⟨moves_of_move (.drop s i (.inl (by simp [hl]))), by simp [lineAt_setLine], by simp, fun j => ?_⟩
      rw [lineAt_setLine]
      split
      · exact .inr rfl
      · exact .inl rfl
    · cases h

theorem isGathering_shut {p : Binding → Bool} {l : Line} (h : (shut p l).isGathering = true) :
    (shut p l).binding.any p = false := by
  cases l with
  | gathering b d v t => cases hp : p b <;> simp_all [shut, Line.isGathering, Line.binding]
  | _ => simp [shut, Line.isGathering] at h

theorem gatherAnew_moves (t : Translation) (bytes : List Byte) {s : State} (cur : current t.binding s = true) :
    Moves s (gatherAnew t bytes s).2 := by
  have closing := closeGathering_moves t.slot s
  have shuts := (closeGathering_shuts t.slot s).1
  unfold gatherAnew
  dsimp only
  split
  · exact closing
  · next none =>
    have noClosed : ∀ j, closedFor t.slot t.hostLine (lineAt j (closeGathering t.slot s)) = false :=
      findLine_none (by simpa using none)
    have noGathering : ∀ j, (lineAt j (closeGathering t.slot s)).isGathering = true →
        (lineAt j (closeGathering t.slot s)).ofSlot t.slot = false := by
      intro j hj
      rw [ofSlot_eq]
      rw [shuts] at hj ⊢
      exact isGathering_shut hj
    have noWrite : ∀ j, (lineAt j (closeGathering t.slot s)).isWrite = true →
        (lineAt j (closeGathering t.slot s)).ofSlotLine t.slot t.hostLine = false := by
      intro j hj
      have h1 := noClosed j
      have h2 := noGathering j
      revert hj h1 h2
      cases lineAt j (closeGathering t.slot s) <;>
        simp +contextual [Line.isWrite, Line.ofSlotLine, Line.ofSlot, Line.binding, closedFor, Line.isGathering]
    split
    · exact closing
    · next i taken htake =>
      obtain ⟨moves, isFree, map, lines⟩ := takeLine_moves htake
      have keep : ∀ (q : Line → Prop), q .free → (∀ j, q (lineAt j (closeGathering t.slot s))) → ∀ j, q (lineAt j taken) := by
        intro q hq h j
        obtain e | e := lines j
        · exact e ▸ h j
        · exact e ▸ hq
      refine moves_trans (moves_trans closing moves) (moves_trans ?_ (mergeInto_moves i t.offset bytes _))
      refine moves_trans (moves_of_move (.gather (b := t.binding) (freeBytes taken.freeIndex) 0
        (taken.now + taken.staging.gatherIdle) isFree ?_ ?_ ?_)) (moves_same (by simp [SameStore, bindGathering]))
      · exact keep (fun l => l.isGathering = true → l.ofSlot t.slot = false) (by simp [Line.isGathering]) noGathering
      · exact keep (fun l => l.isWrite = true → l.ofSlotLine t.slot t.hostLine = false) (by simp [Line.isWrite]) noWrite
      · simpa [current, map] using cur

theorem bufferedWrite_moves (t : Translation) (bytes : List Byte) {s : State} (cur : current t.binding s = true) :
    Moves s (bufferedWrite t bytes s).2 := by
  unfold bufferedWrite
  split
  · exact moves_refl s
  · dsimp only
    split
    · exact moves_trans (freeReads_moves _ s) (mergeInto_moves _ _ _ _)
    · exact moves_trans (freeReads_moves _ s) (gatherAnew_moves t bytes (by simpa [current] using cur))

theorem directWrite_moves (t : Translation) (bytes : List Byte) (s : State) : Moves s (directWrite t bytes s).2 := by
  unfold directWrite
  dsimp only
  have closing := closeGathering_moves t.slot s
  split
  · exact closing
  · have freeing := moves_trans closing (freeReads_moves (Line.ofSlotLine t.slot t.hostLine) _)
    split
    · next room =>
      refine moves_trans freeing (postWrite_moves _ _ _ _ ?_)
      exact unreservedRoom_lt room.2
    · exact freeing

/-- A miss after lines have been given up: nothing more, a slot drain, or a fetch (R28). -/
theorem readMiss_moves {t : Translation} {f : FetchSpan} {readStart : Option Nat} {p : Line → Bool} {r u : State}
    (dropped : u = r ∨ ∃ j, (lineAt j r).reclaimable = true ∧ u = setLine j .free r) (cur : current t.binding r = true)
    (new : LinesCurrent r → LinesDistinct r → ∀ j, (lineAt j (freeReads p u)).isRead = true →
      (lineAt j (freeReads p u)).ofSlotLine t.slot t.hostLine = true → (lineAt j (freeReads p u)).isStale = true) :
    Moves r (readMiss t f readStart (freeReads p u)) := by
  have gone : Moves r (freeReads p u) := by
    obtain rfl | ⟨j, hj, rfl⟩ := dropped
    · exact freeReads_moves p _
    · exact moves_trans (moves_of_move (.drop r j (.inr hj))) (freeReads_moves p _)
  have tracker : (freeReads p u).tracker = r.tracker := by
    obtain rfl | ⟨j, hj, rfl⟩ := dropped <;> simp
  unfold readMiss
  split
  · exact moves_trans gone (startSlotDrain_moves _ _ _)
  · split
    · exact gone
    · next k hk =>
      split
      · exact gone
      · next room hroom =>
        split
        · exact gone
        · next i taken htaken =>
          have hk' : lowestFreeTag r = some k := by rw [← hk, lowestFreeTag, lowestFreeTag, tracker]
          exact moves_of_move (.fetch (b := t.binding) f readStart p dropped (takesLine_of hroom htaken) hk' cur new)

/-- After the direct lines of the slot and host line have been given up, a miss of a buffered read finds no read line of them
that is not stale (R27). -/
theorem bufferedMiss_new {slot : Slot} {h : HostAddr} {r u : State} (cur : LinesCurrent r)
    (noFetch : ∀ j, fetchingBuffered slot h (lineAt j u) = false) (noError : ∀ j, errorBuffered slot h (lineAt j u) = false)
    (noValid : ∀ j, validFor false slot h r (lineAt j u) = false) (lines : ∀ j, lineAt j u = lineAt j r ∨ lineAt j u = .free)
    (j : LineIx) (hread : (lineAt j (freeReads (directFor slot h) u)).isRead = true)
    (hline : (lineAt j (freeReads (directFor slot h) u)).ofSlotLine slot h = true) :
    (lineAt j (freeReads (directFor slot h) u)).isStale = true := by
  rw [lineAt_freeReads] at hread hline ⊢
  have h1 := noFetch j
  have h2 := noError j
  have h3 := noValid j
  have hcur : ∀ b f fetched c, lineAt j u = .valid b f fetched c → current b r = true := by
    intro b f fetched c hl
    obtain e | e := lines j
    · exact cur j b (by simp [← e, hl, Line.binding]) (by simp [← e, hl, Line.isClosed]) (by simp [← e, hl, Line.isStale])
    · simp [e] at hl
  cases hl : lineAt j u with
  | fetching b f readStart stale tag =>
    cases hd : f.direct <;> cases hm : (b.slot == slot && b.hostLine == h) <;>
    simp_all [directFor, fetchingBuffered, Line.freed, Line.isStale, Line.ofSlotLine, Line.binding]
  | valid b f fetched c => 
    have := hcur _ _ _ _ hl
    cases hd : f.direct <;> cases hm : (b.slot == slot && b.hostLine == h) <;>
    simp_all [directFor, validFor, Line.freed, Line.isRead, Line.ofSlotLine, Line.binding]
  | error b f tag => 
    cases hd : f.direct <;> cases hm : (b.slot == slot && b.hostLine == h) <;>
    simp_all [directFor, errorBuffered, Line.freed, Line.isRead, Line.ofSlotLine, Line.binding]
  | _ => simp_all [directFor, Line.isRead]

theorem freeReads_nothing (s : State) : freeReads (fun _ => false) s = s := by
  have same : s.staging.lines.map (fun l => l) = s.staging.lines := Table.ext_get fun i => by simp
  simp [freeReads, State.setStaging, same]

/-- Read-ahead fetches the next host line, which no read line that is not stale is bound to (R30). -/
theorem readAhead_moves {b : Binding} (consume : Nat) {s : State} (cur : current b s = true) :
    Moves s (readAhead b consume s) := by
  unfold readAhead
  split
  · next allowed =>
    split
    · next i k hi hk =>
      simp only [readAheadAllowed, Bool.and_eq_true, decide_eq_true_eq, Bool.not_eq_true'] at allowed
      obtain ⟨⟨⟨_, quota⟩, _⟩, alone⟩ := allowed
      have none : ∀ j, ¬ ((lineAt j s).isRead && !(lineAt j s).isStale && (lineAt j s).ofSlotLine b.slot (b.hostLine + 64)) = true :=
        fun j => List.any_eq_false.mp alone (lineAt j s) (by simp [lineAt, Table.get])
      refine moves_of_move (.fetch (r := s) (u := s) (b := { b with hostLine := b.hostLine + 64 }) wholeSpan Option.none
        (fun _ => false) (.inl rfl) (.inl ?_) hk cur ?_)
      · rw [freeReads_nothing]
        exact ⟨quota, hi, rfl⟩
      · intro _ _ j hr hl
        rw [freeReads_nothing] at hr hl ⊢
        by_contra fresh
        exact none j (by rw [hr, show Line.ofSlotLine b.slot (b.hostLine + 64) (lineAt j s) = true from hl]; simp [fresh])
    · exact moves_refl s
  · exact moves_refl s

theorem validFor_iff {direct : Bool} {slot : Slot} {h : HostAddr} {s : State} {l : Line} :
    validFor direct slot h s l = true ↔
      ∃ b f fetched c, l = .valid b f fetched c ∧ f.direct = direct ∧ b.slot = slot ∧ b.hostLine = h ∧
        current b s = true := by
  cases l <;> simp [validFor, and_assoc]

theorem consumeLine_moves {i : LineIx} {b : Binding} {f : FetchSpan} {fetched : List Byte} {c : Nat} (next : Nat) {s : State}
    (h : lineAt i s = .valid b f fetched c) (cur : current b s = true) : Moves s (consumeLine i b f fetched next s) := by
  unfold consumeLine
  split
  · exact moves_trans (moves_of_move (.drop s i (.inr (by simp [h, Line.reclaimable])))) (readAhead_moves _ (by simpa [current] using cur))
  · exact moves_trans (moves_of_move (.consume next h)) (readAhead_moves _ (by simpa [current] using cur))

/-- Once the one read line of the slot and host line that is not stale has been given up, every one left is stale (R23). -/
theorem giveUp_new {slot : Slot} {h : HostAddr} {r : State} {i : LineIx} (p : Line → Bool) (distinct : LinesDistinct r)
    (hr : (lineAt i r).isRead = true) (hs : (lineAt i r).isStale = false) (hl : (lineAt i r).ofSlotLine slot h = true)
    (j : LineIx) (jr : (lineAt j (freeReads p (setLine i .free r))).isRead = true)
    (jl : (lineAt j (freeReads p (setLine i .free r))).ofSlotLine slot h = true) :
    (lineAt j (freeReads p (setLine i .free r))).isStale = true := by
  rw [lineAt_freeReads, lineAt_setLine] at jr jl ⊢
  by_cases same : i = j
  · simp only [same, if_true] at jr
    split at jr <;> simp [Line.freed, Line.isRead] at jr
  · rw [if_neg same] at jr jl ⊢
    have freed : ∀ l : Line, (if p l then l.freed else l).isRead = true →
        (if p l then l.freed else l).ofSlotLine slot h = true →
        l.isRead = true ∧ l.ofSlotLine slot h = true ∧ (l.isStale = true → (if p l then l.freed else l).isStale = true) := by
      intro l
      split <;> cases l <;> simp +contextual [Line.freed, Line.isRead, Line.ofSlotLine, Line.binding, Line.isStale]
    obtain ⟨lr, ll, stale⟩ := freed _ jr jl
    refine stale (((distinct i j slot h same hl ll).1 hr lr).resolve_left ?_)
    simp [hs]

theorem bufferedRead_moves (t : Translation) (n : Nat) {s : State} (cur : current t.binding s = true) :
    Moves s (bufferedRead t n s).2 := by
  unfold bufferedRead
  split
  · next i hi =>
    obtain ⟨b, f, fetched, c, hl, direct, hs, hh, hc⟩ := validFor_iff.mp (findLine_some hi)
    rw [hl]
    dsimp only
    split
    · exact consumeLine_moves _ hl hc
    · refine readMiss_moves (.inr ⟨i, by simp [hl, Line.reclaimable], rfl⟩) cur fun _ distinct => ?_
      exact giveUp_new _ distinct (by simp [hl, Line.isRead]) (by simp [hl, Line.isStale])
        (by simp [hl, Line.ofSlotLine, Line.binding, hs, hh])
  · next none =>
    split
    · exact moves_refl s
    · next noFetch =>
      split
      · next i hi =>
        refine moves_of_move (.drop s i (.inr ?_))
        have := findLine_some hi
        revert this
        cases lineAt i s <;> simp [errorBuffered, Line.reclaimable]
      · next noError =>
        exact readMiss_moves (.inl rfl) cur fun lc _ =>
          bufferedMiss_new lc (findLine_none (by simpa using noFetch)) (findLine_none noError) (findLine_none none)
            fun _ => .inl rfl

theorem directRead_moves (t : Translation) (n : Nat) {s : State} (cur : current t.binding s = true) :
    Moves s (directRead t n s).2 := by
  unfold directRead
  split
  · split
    · next hl => exact moves_of_move (.drop s _ (.inr (by simp [hl, Line.reclaimable])))
    · exact moves_refl s
  · split
    · exact moves_refl s
    · split
      · next i hi =>
        refine moves_of_move (.drop s i (.inr ?_))
        have := findLine_some hi
        revert this
        cases lineAt i s <;> simp [errorFor, Line.reclaimable]
      · refine readMiss_moves (.inl rfl) cur fun _ _ j hr hl => ?_
        rw [lineAt_freeReads] at hr hl ⊢
        by_cases own : (lineAt j s).ofSlotLine t.slot t.hostLine = true
        · rw [if_pos own] at hr ⊢
          revert hr
          cases lineAt j s <;> simp [Line.freed, Line.isRead, Line.isStale]
        · rw [if_neg own] at hl
          exact absurd hl own

theorem unlockedAccess_moves (t : Translation) (x : Transfer) {s : State} (cur : current t.binding s = true) :
    Moves s (unlockedAccess t x s).2 := by
  have cur' : current t.binding (closeGathering t.slot s) = true := by simpa [current] using cur
  unfold unlockedAccess
  split
  · split
    · exact moves_trans (closeGathering_moves t.slot s) (directRead_moves t _ cur')
    · exact moves_trans (closeGathering_moves t.slot s) (bufferedRead_moves t _ cur')
  · split
    · exact directWrite_moves _ _ _
    · exact bufferedWrite_moves _ _ cur

theorem serve_storeMoves (t : Translation) (x : Transfer) (lock : Bool) {s : State} (cur : current t.binding s = true) :
    Moves s (serve t x lock s).2 := by
  unfold serve
  split
  · exact lockedAccess_storeMoves t x s
  · exact unlockedAccess_moves t x cur

/-- A translation carries the Epoch of its entry (R8, R9). -/
theorem current_of_translate {slot : Slot} {a : CardAddr} {write lock : Bool} {t : Translation} {s : State}
    (h : translate s.pageMap slot a write lock = .passed t) : current t.binding s = true := by
  unfold translate at h
  dsimp only at h
  split at h
  · cases h
  · split at h
    · cases h
    · split at h
      · cases h
      · cases h
        simp [current, Translation.binding]

theorem windowAccess_storeMoves (slot : Slot) (a : CardAddr) (x : Transfer) (lock : Bool) (s : State) :
    Moves s (windowAccess slot a x lock s).2 := by
  unfold windowAccess
  dsimp only
  split
  · exact moves_same (by simp [SameStore])
  · split
    · exact moves_same (by simp [SameStore])
    · unfold translateAndServe
      split
      · exact takeFault_moves _ s
      · next ht => exact serve_storeMoves _ _ _ (current_of_translate ht)

theorem respond_sameStore (slot : Slot) (length k : Nat) (answer : Answer) (s : State) :
    SameStore s (respond slot length k answer s) := by
  simp [SameStore]

theorem slotPresentation_moves (slot : Slot) (address : BusAddress) (x : Transfer) (lock : Bool) (s : State) :
    Moves s (after (.slotPresentation slot address x lock) s) := by
  simp only [after, exec, execSlotPresentation]
  split
  · have reported : Moves s (if lock then s else lockReport slot s) := by
      split
      · exact moves_refl s
      · exact lockReport_storeMoves slot s
    refine moves_trans reported ?_
    cases claims address (if lock then s else lockReport slot s) with
    | some a => exact moves_trans (windowAccess_storeMoves _ _ _ _ _) (moves_same (respond_sameStore _ _ _ _ _))
    | none => exact moves_same ⟨rfl, rfl, rfl⟩
  · exact moves_refl s

end Sys2Proof.Machine
end

section
/-! The moves of lines, tags and posted entries that each command makes. -/

namespace Sys2Proof.Machine

/-! ### Completions -/

theorem lineResult_sameStore {i : LineIx} {x : FetchResult} {s t : State} (h : SameStore s t) :
    SameStore (lineResult i x s) (lineResult i x t) := by
  obtain ⟨map, staging, tracker⟩ := h
  have line : lineAt i t = lineAt i s := by rw [lineAt, lineAt, staging]
  unfold lineResult
  rw [line]
  split
  · simp [SameStore, setLine, map, staging, tracker]
  · exact ⟨map, staging, tracker⟩

theorem requestFault_sameStore (r : Request) (tag : TagRef) {result : FetchResult} (s : State) (h : result.harmless) :
    SameStore s (requestFault r tag result s) := by
  obtain ⟨kept, _⟩ := requestFault_changes r tag s h
  exact ⟨kept .pageMap (by simp), kept .staging (by simp), kept .tracker (by simp)⟩

theorem heldResult_storeMoves (tag : TagRef) (r : FetchResult) (s : State) : Moves s (heldResult tag r s) := by
  unfold heldResult
  split
  · exact moves_refl s
  · split
    · exact moves_refl s
    · split
      · exact moves_refl s
      · split
        · dsimp only
          split
          · exact moves_same (by simp [SameStore])
          · exact postEnd_storeMoves _ s
        · exact moves_same (by simp [SameStore])

theorem beginResult_storeMoves (tag : TagRef) (r : FetchResult) (s : State) : Moves s (beginResult tag r s) := by
  unfold beginResult
  split
  · exact moves_refl s
  · split
    · exact moves_refl s
    · dsimp only
      split
      · exact moves_same (by simp [SameStore])
      · next e _ _ _ _ _ _ =>
        refine moves_trans (takeFault_moves { kind := .exclRefused, slot := some e.slot } s)
          (moves_trans (moves_same ?_) (toNone_storeMoves _))
        exact ⟨rfl, rfl, rfl⟩
      · exact postEnd_storeMoves _ s
      · exact toNone_storeMoves s
      · exact moves_refl s

theorem finishRequest_storeMoves {i : TagIx} {r : Request} {d : Time} {result : FetchResult} {s : State}
    (h : result.harmless) (state : (s.tracker.tags.get i).state = .outstanding r d) :
    Moves s (finishRequest i r result s) := by
  unfold finishRequest
  have reported := fun tag => requestFault_sameStore r tag (retireTag i s) h
  dsimp only [handOver]
  split
  · next j hp =>
    exact moves_trans (moves_of_move (.result result state hp)) (moves_same (lineResult_sameStore (reported _)))
  · next hp =>
    exact moves_trans (moves_of_move (.retire state (by simp [Request.fetches, hp])))
      (moves_trans (moves_same (reported _)) (heldResult_storeMoves _ _ _))
  · next hp =>
    exact moves_trans (moves_of_move (.retire state (by simp [Request.fetches, hp])))
      (moves_trans (moves_same (reported _)) (beginResult_storeMoves _ _ _))

theorem memData_moves (p : List Byte) (s : State) : Moves s (memData p s) := by
  unfold memData
  dsimp only
  split
  · split
    · next hs =>
      split
      · exact finishRequest_storeMoves (completionResult_harmless _ _ _) hs
      · exact takeFault_moves _ s
    · exact takeFault_moves _ s
  · exact takeFault_moves _ s

theorem expireEpisode_storeMoves (e : Episode) (s : State) : Moves s (expireEpisode e s) := by
  have overrun := takeFault_moves { kind := .exclOverrun, slot := some e.slot } s
  unfold expireEpisode
  dsimp only
  split
  · split
    · exact moves_trans overrun (moves_same (by simp [SameStore]))
    · exact moves_trans overrun (moves_trans (dropEpisodeDrain_moves _ _) (toNone_storeMoves _))
  · generalize (if e.heldRead.any HeldRead.isWaiting then e.heldRead else none) = held
    split
    · exact moves_trans overrun (moves_same (by simp [SameStore]))
    · exact moves_trans overrun (postEnd_storeMoves _ _)
  · exact moves_refl s

/-! ### Events -/

theorem eventDrained_sameStore (slot : Slot) (s : State) : SameStore s (eventDrained slot s) := by
  unfold eventDrained
  split
  · split <;> simp [SameStore]
  · exact ⟨rfl, rfl, rfl⟩

theorem raiseEvent_moves (slot : Slot) (s : State) : Moves s (raiseEvent slot s) := by
  have begun : Moves s (freeSlotReads slot
      (startSlotDrain .event slot (setEvent slot { eventAt slot s with state := .pending false } s))) :=
    moves_trans (moves_same (by simp [SameStore])) (moves_trans (startSlotDrain_moves .event slot _) (freeReads_moves _ _))
  unfold raiseEvent
  dsimp only
  split
  · exact moves_trans begun (moves_same (eventDrained_sameStore _ _))
  · exact begun

theorem lookAtLine_moves (slot : Slot) (s : State) : Moves s (lookAtLine slot s) := by
  unfold lookAtLine
  split
  · exact raiseEvent_moves slot s
  · exact moves_refl s

theorem dropEventDrain_moves (slot : Slot) (s : State) : Moves s (dropEventDrain slot s) := setDrains_moves _ _ s

theorem withdrawEvent_moves (slot : Slot) (s : State) : Moves s (withdrawEvent slot s) := by
  unfold withdrawEvent
  split
  · exact moves_trans (moves_same (by simp [SameStore])) (dropEventDrain_moves slot _)
  · exact moves_refl s

theorem endEvent_moves (slot : Slot) (s : State) : Moves s (endEvent slot s) :=
  moves_trans (moves_same (t := withdrawOffer slot (setEvent slot (eventAt slot s).ended s)) (by simp [SameStore]))
    (dropEventDrain_moves slot _)

theorem acknowledge_moves (slot : Slot) (s : State) : Moves s (acknowledge slot s) :=
  moves_trans (moves_same (by simp [SameStore])) (lookAtLine_moves slot _)

theorem slotDrainComplete_moves (slot : Slot) (s : State) : Moves s (after (.slotDrainComplete slot) s) := by
  have event : Moves s (reportEventDrain slot s) := by
    unfold reportEventDrain
    dsimp only
    split
    · exact moves_trans (setDrains_moves _ _ s) (moves_same (eventDrained_sameStore _ _))
    · exact moves_refl s
  refine moves_trans event ?_
  change Moves _ (reportEpisodeDrain slot (reportEventDrain slot s))
  unfold reportEpisodeDrain
  dsimp only
  split
  · exact moves_trans (setDrains_moves _ _ _) (episodeDrained_storeMoves _ _)
  · exact moves_refl _

/-! ### Slots -/

theorem slotChange_moves (slot : Slot) {s t : State} (h : SameStore s t) : Moves s (endEvent slot (quiesceSlot slot t)) :=
  moves_trans (moves_same h) (moves_trans (quiesceSlot_moves slot t) (endEvent_moves slot _))

theorem disableSlot_moves (slot : Slot) (s : State) : Moves s (disableSlot slot s) := by
  unfold disableSlot
  split
  · exact slotChange_moves slot (by simp [SameStore])
  · exact moves_refl s

theorem enableSlot_moves (slot : Slot) (s : State) : Moves s (enableSlot slot s) := by
  unfold enableSlot
  split
  · exact moves_refl s
  · exact moves_trans (moves_same (by simp [SameStore])) (lookAtLine_moves slot _)

theorem beginSlotReset_moves (slot : Slot) (e : CommandEntry) (rest : List CommandEntry) (s : State) :
    Moves s (beginSlotReset slot (beginHead e rest s)) :=
  slotChange_moves slot (by simp [SameStore])

theorem endSlotReset_moves (slot : Slot) (s : State) : Moves s (endSlotReset slot s) := by
  unfold endSlotReset
  dsimp only
  split <;> exact moves_trans (moves_same (by simp [SameStore])) (lookAtLine_moves slot _)

/-! ### The bridge master -/

theorem failAccess_moves (a : Downstream) (code : ResultCode) (s : State) : Moves s (failAccess a code s) := by
  unfold failAccess
  dsimp only
  split
  · exact moves_same (by simp [SameStore])
  · split
    · exact moves_trans (moves_same (t := releaseMaster (setAccess none s)) (by simp [SameStore]))
        (moves_trans (freeReads_moves (fun l => !l.isFree) _) (moves_same (by simp [SameStore, freeAllReads])))
    · exact moves_same (by simp [SameStore])

theorem finishWrite_moves (a : Downstream) (s : State) : Moves s (finishWrite a s) := by
  unfold finishWrite
  dsimp only
  split
  · exact moves_same (by simp [SameStore])
  · exact moves_trans (moves_same (t := releaseMaster (setAccess none s)) (by simp [SameStore]))
      (moves_trans (freeReads_moves (fun l => !l.isFree) _) (moves_same (by simp [SameStore, freeAllReads])))

theorem finishRead_moves (a : Downstream) (data : List Byte) (s : State) : Moves s (finishRead a data s) := by
  unfold finishRead
  dsimp only
  split
  · exact moves_same (by simp [SameStore])
  · split <;>
      exact moves_trans (moves_same (t := releaseMaster s) (by simp [SameStore]))
        (moves_trans (startGlobalDrain_moves _) (moves_same (by simp [SameStore])))

theorem retryAccess_moves (a : Downstream) (s : State) : Moves s (retryAccess a s) := by
  unfold retryAccess
  dsimp only
  split
  · exact moves_same (by simp [SameStore])
  · split
    · exact failAccess_moves _ _ s
    · split <;> exact moves_same (by simp [SameStore])

theorem followAnswer_moves (a : Downstream) (r : Response) (data : List Byte) (s : State) :
    Moves s (followAnswer a r data s) := by
  cases r with
  | complete =>
    simp only [followAnswer]
    split
    · exact finishWrite_moves a s
    · exact finishRead_moves a _ s
  | partly n => exact moves_same (by simp [SameStore, followAnswer, continueAccess])
  | retry => exact retryAccess_moves a s
  | abort => exact failAccess_moves a _ s

theorem finishDrain_sameStore (s : State) : SameStore s (finishDrain s) := by
  unfold finishDrain
  split
  · split <;> simp [SameStore]
  · simp [SameStore]

/-! ### The transmitter -/

theorem reportTransmitted_moves (p : PostedEntry) (s : State) : Moves s (reportTransmitted p s) :=
  moves_of_move (.marks s _ _ _)

theorem servePosted_moves (s : State) : Moves s (servePosted s) := by
  unfold servePosted
  split
  · next p _ hp =>
    exact moves_trans (moves_of_move (.leave hp))
      (moves_trans (reportTransmitted_moves p _) (moves_same (by simp [SameStore])))
  · exact moves_refl s

theorem serveRequest_moves (s : State) : Moves s (serveRequest s) := by
  unfold serveRequest
  split
  · next hq =>
    dsimp only
    split
    · next hs => exact moves_trans (moves_of_move (.send (s.now + Config.ms s.tracker.readTimeout) hq hs)) (moves_same (by simp [SameStore]))
    · exact moves_refl s
  · exact moves_refl s

theorem serveReply_sameStore (s : State) : SameStore s (serveReply (setClass .reply s)) := by
  unfold serveReply
  (repeat' split) <;> simp [SameStore, sendEvent, sendReport, eventTransmitted]

theorem serveFault_sameStore (s : State) : SameStore s (serveFault (setClass .fault s)) := by
  unfold serveFault
  split <;> simp [SameStore]

theorem serveClass_moves (c : TxClass) (s : State) : Moves s (serveClass c s) := by
  cases c with
  | reply => exact moves_same (serveReply_sameStore _)
  | fault => exact moves_same (serveFault_sameStore _)
  | posted => exact moves_trans (moves_same (by simp [SameStore])) (servePosted_moves _)
  | request => exact moves_trans (moves_same (by simp [SameStore])) (serveRequest_moves _)

/-- The link state, the numbering, the replay buffer and the credits are the same in both. -/
def SameLink (u v : Uplink) : Prop :=
  v.linkState = u.linkState ∧ v.nextTx = u.nextTx ∧ v.replay = u.replay ∧ v.requestCredits = u.requestCredits ∧
    v.postedCredits = u.postedCredits

/-- The transmitter sends a link frame or a frame of a replay, nothing, or a new frame of a class that is ready (R180). -/
theorem transmitNext_ind {P : State → Prop} {s : State} (link : ∀ u, SameLink s.uplink u → P (s.setUplink u))
    (served : ∀ c, linkUp s = true → s.uplink.replay.length < 16 → P (serveClass c s)) : P (transmitNext s) := by
  have same : P s := link s.uplink ⟨rfl, rfl, rfl, rfl, rfl⟩
  unfold transmitNext
  split
  · exact link _ ⟨rfl, rfl, rfl, rfl, rfl⟩
  · split
    · exact link _ ⟨rfl, rfl, rfl, rfl, rfl⟩
    · split
      · exact link _ ⟨rfl, rfl, rfl, rfl, rfl⟩
      · split
        · exact link _ ⟨rfl, rfl, rfl, rfl, rfl⟩
        · split
          · exact link _ ⟨rfl, rfl, rfl, rfl, rfl⟩
          · split
            · unfold sendReplay
              split
              · exact link _ ⟨rfl, rfl, rfl, rfl, rfl⟩
              · exact link _ ⟨rfl, rfl, rfl, rfl, rfl⟩
            · unfold serveNew
              split
              · next ready =>
                obtain ⟨up, room⟩ := Bool.and_eq_true_iff.mp ready
                split
                · exact served _ up (by simpa [Config.replayPlaces] using of_decide_eq_true room)
                · exact same
              · exact same

theorem transmitNext_moves (s : State) : Moves s (transmitNext s) :=
  transmitNext_ind (fun _ _ => moves_same ⟨rfl, rfl, rfl⟩) fun c _ _ => serveClass_moves c s

/-! ### The link -/

theorem linkLoss_moves (training reset : Bool) (s : State) : Moves s (linkLoss training reset s) :=
  moves_trans (moves_of_move (.loss s)) (moves_trans (moves_same (by simp [SameStore])) (takeFault_moves _ _))

theorem replayDue_moves (s : State) : Moves s (replayDue s) := by
  unfold replayDue
  split
  · exact moves_same (by simp [SameStore])
  · exact linkLoss_moves _ _ s

theorem replayIfAny_moves (s : State) : Moves s (replayIfAny s) := by
  unfold replayIfAny
  split
  · exact moves_refl s
  · exact replayDue_moves s

theorem applyNak_moves (n : SeqNo) (s : State) : Moves s (applyNak n s) := by
  unfold applyNak
  split
  · split
    · exact replayIfAny_moves s
    · exact moves_refl s
  · exact moves_trans (moves_same (by simp [SameStore])) (replayIfAny_moves _)

theorem initFrame_moves (f : InitFields) (s : State) : Moves s (initFrame f s) := by
  unfold initFrame
  split
  · split
    · exact moves_same (by simp [SameStore])
    · exact moves_refl s
  · split
    · obtain ⟨kept, _⟩ := enterUp_changes f s
      exact moves_same ⟨kept .pageMap (by simp), kept .staging (by simp), kept .tracker (by simp)⟩
    · exact moves_refl s
  · exact linkLoss_moves _ _ s

theorem grantCredits_moves (r q : Byte) (s : State) : Moves s (grantCredits r q s) := by
  obtain ⟨kept, _⟩ := grantCredits_changes r q s
  exact moves_same ⟨kept .pageMap (by simp), kept .staging (by simp), kept .tracker (by simp)⟩

theorem receive_moves {k : HostKind} {p : List Byte} {rule : State → State} {s : State} (h : Moves s (rule s)) :
    Moves s (receive k p (whenUp rule) s) :=
  receive_ind (moves_refl s) (moves_same (by simp [SameStore])) fun _ => h

theorem sequenced_moves {seq ackSeq : SeqNo} {deliver : State → State} {s : State}
    (h : ∀ u, Moves (s.setUplink u) (deliver (s.setUplink u))) : Moves s (sequenced seq ackSeq deliver s) :=
  sequenced_ind (fun _ _ => moves_same ⟨rfl, rfl, rfl⟩) fun u _ =>
    moves_trans (moves_same (t := s.setUplink u) ⟨rfl, rfl, rfl⟩) (h u)

theorem answer_moves (f : CommandFrame) (v : Verdict) (s : State) : Moves s (answer f v s) := by
  cases v with
  | refused code => exact moves_same (by simp [SameStore, answer])
  | eventAck slot seq =>
    simp only [answer, runEventAck]
    split
    · exact moves_trans (moves_same (by simp [SameStore])) (acknowledge_moves slot _)
    · exact moves_same (by simp [SameStore])
  | statusQuery x => exact moves_same (by simp [SameStore, answer])
  | ordered => exact moves_refl s

theorem arrive_moves (p : List Byte) (s : State) : Moves s (arrive p s) := by
  unfold arrive
  split
  · exact moves_same (by simp [SameStore])
  · split
    · exact takeFault_moves _ s
    · unfold decideArrival
      split
      · exact moves_same (by simp [SameStore])
      · split
        · exact answer_moves _ _ s
        · exact moves_same (by simp [SameStore])

theorem takeHeld_moves (before after : List CommandEntry) (e : CommandEntry) (s : State) :
    Moves s (takeHeld before e after s) := by
  unfold takeHeld
  dsimp only
  split
  · exact moves_same (by simp [SameStore])
  · refine moves_trans (moves_same ?_) (answer_moves _ _ _)
    exact ⟨rfl, rfl, rfl⟩

/-! ### Ordered commands -/

theorem runHead_moves {start : Command → Option (State → State)} {s : State}
    (h : ∀ c f, c.InRanges → start c = some f → ∀ t, Moves t (f t)) : Moves s (runHead start s) := by
  refine runHead_ind (moves_refl s) fun e rest c f hh hf => ?_
  obtain ⟨_, parsed, _⟩ := hh
  exact moves_trans (moves_same (by simp [SameStore])) (h c f (parseCommand_inRanges parsed) hf _)

theorem slotCommand_moves {action : SlotAction} {act : Slot → State → State} {s : State}
    (h : ∀ slot t, Moves t (act slot t)) : Moves s (slotCommand action act s) :=
  slotCommand_ind (moves_refl s) fun e rest slot _ =>
    moves_trans (moves_same (t := beginHead e rest s) (by simp [SameStore]))
      (moves_trans (h slot _) (moves_same (by simp [SameStore])))

theorem startUnlessEpisode_moves {start : State → State} {s : State} (h : Moves s (start s)) :
    Moves s (startUnlessEpisode start s) := by
  unfold startUnlessEpisode
  split
  · exact h
  · exact moves_same (by simp [SameStore])

theorem applyBufferFields_moves {g : Option Nat} (r : Option Bool) {s : State} (h : ∀ v, g = some v → 1 ≤ v ∧ v ≤ 32) :
    Moves s (applyBufferFields g r s) := by
  refine moves_of_move (.buffering s.staging.buffering (r.getD s.staging.readAhead) (g.getD s.staging.gatherIdle) ?_)
  cases g with
  | none => exact .inl rfl
  | some v => exact .inr (h v rfl)

theorem setBuffering_moves (on : Bool) (s : State) : Moves s (setBuffering on s) :=
  moves_of_move (.buffering on s.staging.readAhead s.staging.gatherIdle (.inl rfl))

theorem drained_moves (s : State) : Moves s (awaitDrain (drainAndFree s)) :=
  moves_trans (drainAndFree_moves s) (moves_same (by simp [SameStore]))

theorem inRange_getD {lo hi old : Nat} {v : Option Nat} (h : inRange lo hi v = true) :
    v.getD old = old ∨ (lo ≤ v.getD old ∧ v.getD old ≤ hi) := by
  cases v with
  | none => exact .inl rfl
  | some n => exact .inr (by simpa [inRange] using h)

theorem applyLimits_moves {l : LimitFields} {s : State} (h : l.inRanges = true) : Moves s (applyLimits l s) := by
  simp only [LimitFields.inRanges, Bool.and_eq_true] at h
  obtain ⟨⟨⟨⟨⟨timeout, _⟩, _⟩, high⟩, _⟩, _⟩ := h
  unfold applyLimits
  dsimp only
  split
  · next marks =>
    have move := fun hold => Move.limits (s := s) _ _ (l.readTimeout.getD s.tracker.readTimeout) hold marks
      (inRange_getD high) (inRange_getD timeout)
    refine moves_trans (moves_of_move (move (holdOnLimits
      { s.tracker with
        holdHigh := l.holdHigh.getD s.tracker.holdHigh
        holdLow := l.holdLow.getD s.tracker.holdLow
        readTimeout := l.readTimeout.getD s.tracker.readTimeout }))) (moves_same ?_)
    simp [SameStore]
  · exact moves_same (by simp [SameStore])

theorem startAccess_sameStore (write : Bool) (f : AccessFields) (data : List Byte) (s : State) :
    SameStore s (startAccess write f data s) := by
  unfold startAccess
  split
  · simp [SameStore]
  · dsimp only
    split <;> simp [SameStore]

theorem retireAll_free (tags : Table TagRecord 16) (k : TagIx) : ((retireAll tags).get k).state = .free := by
  simp only [retireAll, Table.get_map]
  split
  · rfl
  · next h => simpa [TagRecord.busy] using h

theorem returnCredits_pageMap (n : Nat) (s : State) : (returnCredits n s).pageMap = s.pageMap := by
  induction n generalizing s with
  | zero => rfl
  | succ n ih => simpa [returnCredits] using ih (returnCredit s)

theorem startBridgeReset_moves (s : State) : Moves s (startBridgeReset s) := by
  unfold startBridgeReset
  refine moves_trans (moves_of_move (.reset rfl (fun k => ?_) rfl rfl ⟨rfl, rfl, rfl⟩ (.inl ?_))) (takeFault_moves _ _)
  · exact retireAll_free _ k
  · simp [resetBlocks, resetPageMap, returnCredits_pageMap]

/-! ### Every command -/

/-- The moves of the commands that other units make of lines, tags and posted entries, one row of the opcode table each. -/
theorem after_moves (i : Instr) (s : State) : Moves s (after i s) := by
  by_cases touches : Block.pageMap ∈ touched i ∨ Block.staging ∈ touched i ∨ Block.tracker ∈ touched i
  case neg =>
    rw [not_or, not_or] at touches
    obtain ⟨map, staging, tracker⟩ := touches
    have kept := (after_changes i s).1
    exact moves_same ⟨kept .pageMap map, kept .staging staging, kept .tracker tracker⟩
  case pos =>
    cases i with
    | powerOnReset => exact moves_of_move (.reset rfl (fun k => by simp [after, exec, execPowerOnReset, powerOn, State.reset, Tracker.reset]) rfl rfl ⟨rfl, rfl, rfl⟩ (.inr rfl))
    | initReceived p =>
      simp only [after, exec, execInitReceived, receive]
      split
      · exact initFrame_moves _ s
      · exact moves_same (by simp [SameStore])
    | nakReceived p => exact receive_moves (applyNak_moves _ s)
    | linkResetReceived p => exact receive_moves (linkLoss_moves _ _ s)
    | commandReceived seq ackSeq p => exact receive_moves (sequenced_moves fun _ => arrive_moves p _)
    | memDataReceived seq ackSeq p => exact receive_moves (sequenced_moves fun _ => memData_moves p _)
    | lossOfSignal =>
      simp only [after, exec, execLossOfSignal]
      split
      · exact linkLoss_moves _ _ s
      · exact moves_same (by simp [SameStore])
      · exact moves_refl s
    | replayDeadlineExpiry =>
      simp only [after, exec, execReplayDeadlineExpiry]
      split
      · exact moves_trans (moves_same (by simp [SameStore])) (replayDue_moves _)
      · exact moves_refl s
    | transmitterFree => exact transmitNext_moves s
    | heldEntryTaken =>
      simp only [after, exec, execHeldEntryTaken]
      split
      · split
        · exact takeHeld_moves _ _ _ s
        · exact moves_refl s
      · exact moves_refl s
    | mapWrite =>
      refine runHead_moves fun c f _ hf => ?_
      cases c <;> simp only [reduceCtorEq, Option.some.injEq] at hf
      exact hf ▸ fun t => startUnlessEpisode_moves (startMapWrite_moves _ _ t)
    | mapInvalidate =>
      refine runHead_moves fun c f _ hf => ?_
      cases c <;> simp only [reduceCtorEq, Option.some.injEq] at hf
      exact hf ▸ fun t => startUnlessEpisode_moves (startMapInvalidate_moves _ _ t)
    | windowSet =>
      refine runHead_moves fun c f hc hf => ?_
      cases c <;> simp only [reduceCtorEq, Option.some.injEq] at hf
      exact hf ▸ fun t => startUnlessEpisode_moves (startWindowSet_moves t hc)
    | bufferControlFlush =>
      refine runHead_moves fun c f hc hf => ?_
      cases c with
      | bufferControl a g r =>
        cases a <;> simp only [reduceCtorEq, Option.some.injEq] at hf
        exact hf ▸ fun t => moves_trans (applyBufferFields_moves r hc) (drained_moves _)
      | _ => simp at hf
    | bufferControlEnable =>
      refine runHead_moves fun c f hc hf => ?_
      cases c with
      | bufferControl a g r =>
        cases a <;> simp only [reduceCtorEq, Option.some.injEq] at hf
        exact hf ▸ fun t => moves_trans (applyBufferFields_moves r hc)
          (moves_trans (setBuffering_moves true _) (moves_same (by simp [SameStore])))
      | _ => simp at hf
    | bufferControlDisable =>
      refine runHead_moves fun c f hc hf => ?_
      cases c with
      | bufferControl a g r =>
        cases a <;> simp only [reduceCtorEq, Option.some.injEq] at hf
        exact hf ▸ fun t => moves_trans (applyBufferFields_moves r hc)
          (moves_trans (setBuffering_moves false _) (drained_moves _))
      | _ => simp at hf
    | setLimits =>
      refine runHead_moves fun c f hc hf => ?_
      cases c <;> simp only [reduceCtorEq, Option.some.injEq] at hf
      exact hf ▸ fun t => applyLimits_moves hc
    | slotControlEnable => exact slotCommand_moves enableSlot_moves
    | slotControlDisable => exact slotCommand_moves disableSlot_moves
    | slotControlFence => exact slotCommand_moves fence_moves
    | slotControlReset =>
      refine slotReset_ind (moves_refl s) fun e rest slot _ => ?_
      split
      · exact moves_trans (beginSlotReset_moves slot e rest s) (moves_same (by simp [SameStore]))
      · exact moves_same (by simp [SameStore])
    | slotControlMask =>
      exact slotCommand_moves fun slot t => moves_trans (moves_same (by simp [SameStore])) (withdrawEvent_moves slot _)
    | slotControlUnmask =>
      exact slotCommand_moves fun slot t => moves_trans (moves_same (by simp [SameStore])) (lookAtLine_moves slot _)
    | bridgeReset =>
      refine runHead_moves fun c f _ hf => ?_
      cases c <;> simp only [reduceCtorEq, Option.some.injEq] at hf
      exact hf ▸ startBridgeReset_moves
    | slotPresentation slot address x lock => exact slotPresentation_moves slot address x lock s
    | lockRelease slot => exact lockReport_storeMoves slot s
    | presentationAnswer r data =>
      simp only [after, exec, execPresentationAnswer]
      split
      · split
        · exact followAnswer_moves _ _ _ s
        · exact moves_refl s
      · exact moves_refl s
    | noClaim =>
      simp only [after, exec, execNoClaim]
      split
      · split
        · exact moves_trans (moves_same (by simp [SameStore])) (failAccess_moves _ _ _)
        · exact moves_refl s
      · exact moves_refl s
    | interruptAssertion slot => exact moves_trans (moves_same (by simp [SameStore])) (lookAtLine_moves slot _)
    | interruptDeassertion slot =>
      simp only [after, exec, execInterruptDeassertion]
      split
      · exact moves_trans (moves_same (by simp [SameStore])) (withdrawEvent_moves slot _)
      · exact moves_same (by simp [SameStore])
    | slotResetEnd slot =>
      simp only [after, exec, execSlotResetEnd]
      split
      · exact moves_trans (moves_same (by simp [SameStore])) (endSlotReset_moves slot _)
      · exact moves_refl s
    | gatherIdleExpiry line =>
      simp only [after, exec, execGatherIdleExpiry]
      split
      · exact moves_trans (moves_same (by simp [SameStore])) (moves_of_move (.close _ line))
      · exact moves_refl s
    | readTimeoutExpiry tag =>
      simp only [after, exec, execReadTimeoutExpiry]
      split
      · next hs => exact moves_trans (moves_same (by simp [SameStore])) (finishRequest_storeMoves rfl hs)
      · exact moves_refl s
    | episodeLimitExpiry =>
      simp only [after, exec, execEpisodeLimitExpiry]
      split
      · split
        · exact moves_trans (moves_same (by simp [SameStore])) (expireEpisode_storeMoves _ _)
        · exact moves_refl s
      · exact moves_refl s
    | slotDrainComplete slot => exact slotDrainComplete_moves slot s
    | globalDrainComplete =>
      simp only [after, exec, execGlobalDrainComplete]
      split
      · exact moves_trans (moves_of_move (.marks s s.staging.slotDrains none s.staging.mapBarrier))
          (moves_same (finishDrain_sameStore _))
      · exact moves_refl s
    | mapBarrierComplete =>
      simp only [after, exec, execMapBarrierComplete]
      split
      · exact moves_trans (moves_of_move (.marks s s.staging.slotDrains s.staging.globalDrain none)) (moves_same (by simp [SameStore]))
      · exact moves_refl s
    | closedLineMove =>
      simp only [after, exec, execClosedLineMove]
      split
      · next room => exact moves_of_move (.moveClosed (unreservedRoom_lt room))
      · exact moves_refl s
    | exclEndPlaced =>
      simp only [after, exec, execExclEndPlaced]
      split
      · split
        · next room =>
          exact moves_trans (moves_of_move (.join _ _ _ _ (postedRoom_iff.mp (Bool.and_eq_true_iff.mp room).2)))
            (toNone_storeMoves _)
        · exact moves_refl s
      · exact moves_refl s
    | exclBeginAllocation =>
      simp only [after, exec, execExclBeginAllocation]
      split
      · split
        · exact episodeDrained_storeMoves _ s
        · exact moves_refl s
      · exact moves_refl s
    | _ => exact absurd touches (by simp [touched])

/-- A step makes moves, whether time passes or a command runs. -/
theorem step_moves {s t : State} (h : step s = .next t) : Moves s t := by
  obtain ⟨_, rfl⟩ | ⟨i, rest, _, rfl⟩ := step_cases h
  · exact moves_same ⟨rfl, rfl, rfl⟩
  · exact moves_trans (moves_same (t := s.setPending rest) ⟨rfl, rfl, rfl⟩) (after_moves i _)

end Sys2Proof.Machine
end

section
/-! What the moves keep of the staging lines: the closed-order list and the LRU order, current lines, no two lines on one
host line, and the quotas of the slots. -/

namespace Sys2Proof.Machine

/-! ### The line orders -/

theorem linesOrdered_congr {s t : State} (h : LinesOrdered s) (hs : t.staging.lines = s.staging.lines)
    (hc : t.staging.closedOrder = s.staging.closedOrder) (hl : t.staging.lru = s.staging.lru) : LinesOrdered t := by
  simpa only [LinesOrdered, lineAt, hs, hc, hl] using h

/-- A line that is not CLOSED replaced by another one (R24). -/
theorem setLine_linesOrdered {i : LineIx} {l : Line} {s : State} (h : LinesOrdered s)
    (old : (lineAt i s).isClosed = false) (new : l.isClosed = false) : LinesOrdered (setLine i l s) := by
  obtain ⟨closedOnce, closed, lruOnce, lru⟩ := h
  refine ⟨by simpa [setLine] using closedOnce, fun j => ?_, ?_, fun j => ?_⟩
  · rw [lineAt_setLine]
    by_cases e : i = j
    · subst e
      simpa [setLine, new, old] using closed i
    · simpa [setLine, e] using closed j
  · simp only [setLine, State.setStaging_staging]
    refine List.nodup_append.mpr ⟨lruOnce.filter _, by split <;> simp, ?_⟩
    intro a ha b hb e
    split at hb <;> simp_all
  · rw [lineAt_setLine]
    by_cases e : i = j
    · subst e
      cases hr : l.reclaimable <;> simp [setLine, hr]
    · have e' : ¬ j = i := fun x => e x.symm
      have := lru j
      cases hr : l.reclaimable <;> simp [setLine, hr, e, e', this]

theorem closeLine_linesOrdered (i : LineIx) {s : State} (h : LinesOrdered s) : LinesOrdered (closeLine s i) := by
  obtain ⟨closedOnce, closed, lruOnce, lru⟩ := h
  cases hl : lineAt i s with
  | gathering b d v t =>
    have open_ : i ∉ s.staging.closedOrder := by simp [closed, hl, Line.isClosed]
    have after : ∀ j, lineAt j (closeLine s i) = if i = j then .closed b d v else lineAt j s := by
      intro j
      rw [lineAt_closeLine, hl]
    refine ⟨?_, fun j => ?_, ?_, fun j => ?_⟩
    · simp only [closeLine, hl, State.setStaging_staging]
      exact List.nodup_append.mpr ⟨closedOnce, by simp, by rintro a ha _ hb rfl; simp_all⟩
    · rw [after]
      by_cases e : i = j
      · subst e
        simp [closeLine, hl, Line.isClosed]
      · have e' : ¬ j = i := fun x => e x.symm
        simp [closeLine, hl, e, e', closed]
    · simpa [closeLine, hl] using lruOnce
    · rw [after]
      by_cases e : i = j
      · subst e
        simp [closeLine, hl, lru, Line.reclaimable]
      · simp [closeLine, hl, e, lru]
  | _ => simpa [closeLine, hl] using ⟨closedOnce, closed, lruOnce, lru⟩

theorem freed_isClosed (l : Line) : l.freed.isClosed = l.isClosed := by cases l <;> rfl

theorem freed_reclaimable (l : Line) : l.freed.reclaimable = false := by cases l <;> rfl

theorem freeReads_linesOrdered (p : Line → Bool) {s : State} (h : LinesOrdered s) : LinesOrdered (freeReads p s) := by
  obtain ⟨closedOnce, closed, lruOnce, lru⟩ := h
  refine ⟨by simpa [freeReads] using closedOnce, fun j => ?_, ?_, fun j => ?_⟩
  · rw [lineAt_freeReads]
    have same : (if p (lineAt j s) then (lineAt j s).freed else lineAt j s).isClosed = (lineAt j s).isClosed := by
      split
      · exact freed_isClosed _
      · rfl
    rw [same]
    simpa [freeReads] using closed j
  · simpa [freeReads] using lruOnce.filter _
  · rw [lineAt_freeReads]
    cases hp : p (lineAt j s) <;> simp [freeReads, lru, hp, freed_reclaimable]

theorem moveClosed_linesOrdered {s : State} (h : LinesOrdered s) : LinesOrdered (moveClosed s) := by
  unfold moveClosed
  split
  · exact h
  · next i rest hc =>
    split
    · next b d v hl =>
      obtain ⟨closedOnce, closed, lruOnce, lru⟩ := h
      rw [hc] at closedOnce
      obtain ⟨gone, restOnce⟩ := List.nodup_cons.mp closedOnce
      refine linesOrdered_congr (s := s.setStaging
        { s.staging with lines := s.staging.lines.set i .free, closedOrder := rest }) ?_ (by simp) (by simp) (by simp)
      have after : ∀ j, lineAt j (s.setStaging
          { s.staging with lines := s.staging.lines.set i .free, closedOrder := rest }) =
          if i = j then .free else lineAt j s := by
        intro j
        simp [lineAt, Table.get_set]
      refine ⟨restOnce, fun j => ?_, lruOnce, fun j => ?_⟩
      · rw [after]
        by_cases e : i = j
        · subst e
          simpa [Line.isClosed] using gone
        · have e' : ¬ j = i := fun x => e x.symm
          rw [if_neg e, ← closed j, hc]
          simp [e']
      · rw [after]
        by_cases e : i = j
        · subst e
          simp [lru, hl, Line.reclaimable]
        · simp [e, lru]
    · exact h

theorem allLines_nodup : allLines.Nodup := by decide

theorem lossStaging_linesOrdered (s : State) : LinesOrdered (lossStaging s) := by
  have after : ∀ j, lineAt j (lossStaging s) = (lineAt j s).atLoss := by
    intro j
    simp [lineAt, lossStaging]
  refine ⟨by simp [lossStaging], fun j => ?_, ?_, fun j => ?_⟩
  · rw [after]
    cases lineAt j s with
    | fetching b f r stale tag => cases stale <;> simp [lossStaging, Line.atLoss, Line.isClosed]
    | _ => simp [lossStaging, Line.atLoss, Line.isClosed]
  · simp only [lossStaging, State.setFreeIndex_staging, State.setStaging_staging]
    exact (freeOrder_perm _ _).nodup_iff.mpr (allLines_nodup.filter _)
  · rw [after]
    simp only [lossStaging, State.setFreeIndex_staging, State.setStaging_staging, mem_freeOrder, failingLines,
      List.mem_filter, mem_allLines, true_and]
    cases lineAt j s with
    | fetching b f r stale tag => cases stale <;> simp [Line.atLoss, Line.reclaimable]
    | _ => simp [Line.atLoss, Line.reclaimable]

/-! ### The fetch of a line -/

theorem reclaimed_eq (j : LineIx) (s : State) : reclaimed j s = setLine j .free s := by
  simp [reclaimed, setLine, Line.reclaimable]

/-- The line that a miss takes is FREE, after at most one line has been reclaimed (R25). -/
theorem taken_path {slot : Slot} {i : LineIx} {w v : State} (h : TakesLine slot i w v) :
    lineAt i v = .free ∧ (v = w ∨ ∃ j, j ∈ w.staging.lru ∧ v = setLine j .free w) := by
  have free : ∀ {x : State}, findLine Line.isFree x = some i → lineAt i x = .free := by
    intro x hx
    have := findLine_some hx
    revert this
    cases lineAt i x <;> simp [Line.isFree]
  obtain ⟨_, hf, rfl⟩ | ⟨_, _, ⟨rest, hl⟩, rfl⟩ | ⟨_, j, hj, rfl, hf⟩ := h
  · exact ⟨free hf, .inl rfl⟩
  · rw [reclaimed_eq]
    exact ⟨by simp [lineAt_setLine], .inr ⟨i, by simp [hl], rfl⟩⟩
  · exact ⟨free hf, .inr ⟨j, List.mem_of_find?_eq_some hj, reclaimed_eq j w⟩⟩

/-- What freeing and reclaiming keep holds of the state in which the line is bound. -/
theorem fetch_path {P : State → Prop} {slot : Slot} {r u v : State} {i : LineIx} {p : Line → Bool} (hr : P r)
    (dropped : u = r ∨ ∃ j, (lineAt j r).reclaimable = true ∧ u = setLine j .free r)
    (taken : TakesLine slot i (freeReads p u) v) (free : ∀ s, P s → P (freeReads p s))
    (drop : ∀ s j, P s → (j ∈ s.staging.lru ∨ (lineAt j s).reclaimable = true) → P (setLine j .free s)) : P v := by
  have hu : P u := by
    obtain rfl | ⟨j, hj, rfl⟩ := dropped
    · exact hr
    · exact drop r j hr (.inr hj)
  obtain ⟨_, rfl | ⟨j, hj, rfl⟩⟩ := taken_path taken
  · exact free u hu
  · exact drop _ j (free u hu) (.inl hj)

theorem bindFetch_of_tag {i : LineIx} {b : Binding} {f : FetchSpan} {readStart : Option Nat} {k : TagIx} {v : State}
    (h : lowestFreeTag v = some k) :
    bindFetch i b f readStart v =
      setLine i (.fetching b f readStart false ⟨k, (v.tracker.tags.get k).generation⟩)
        (v.setTracker (allocated k
          { purpose := .lineFetch i, hostAddress := b.hostLine + BitVec.ofNat 48 f.start, length := f.stop - f.start,
            slot := b.slot } v.tracker)) := by
  simp [bindFetch, allocateTag, h, allocated]

@[simp] theorem lineAt_setTracker (i : LineIx) (s : State) (t : Tracker) : lineAt i (s.setTracker t) = lineAt i s := rfl

/-- An allocation takes a FREE tag (R50). -/
theorem allocateTag_eq {q : Request} {s t : State} {tag : TagRef} (h : allocateTag q s = some (tag, t)) :
    (s.tracker.tags.get tag.index).state = .free ∧ t = s.setTracker (allocated tag.index q s.tracker) := by
  unfold allocateTag at h
  split at h
  · cases h
  · next hk =>
    cases h
    exact ⟨lowestFreeTag_some hk, rfl⟩

theorem fetch_tracker {slot : Slot} {r u v : State} {i : LineIx} {p : Line → Bool}
    (dropped : u = r ∨ ∃ j, (lineAt j r).reclaimable = true ∧ u = setLine j .free r)
    (taken : TakesLine slot i (freeReads p u) v) : v.tracker = r.tracker :=
  fetch_path (P := fun x => x.tracker = r.tracker) rfl dropped taken (fun s h => by simpa using h)
    (fun s j h _ => by simpa using h)

theorem fetch_pageMap {slot : Slot} {r u v : State} {i : LineIx} {p : Line → Bool}
    (dropped : u = r ∨ ∃ j, (lineAt j r).reclaimable = true ∧ u = setLine j .free r)
    (taken : TakesLine slot i (freeReads p u) v) : v.pageMap = r.pageMap :=
  fetch_path (P := fun x => x.pageMap = r.pageMap) rfl dropped taken (fun s h => by simpa using h)
    (fun s j h _ => by simpa using h)

theorem lowestFreeTag_congr {s t : State} (h : t.tracker = s.tracker) : lowestFreeTag t = lowestFreeTag s := by
  rw [lowestFreeTag, lowestFreeTag, h]

/-! ### Every move keeps the orders -/

theorem not_closed_of_lru {i : LineIx} {s : State} (h : LinesOrdered s)
    (hi : i ∈ s.staging.lru ∨ (lineAt i s).reclaimable = true) : (lineAt i s).reclaimable = true ∧ (lineAt i s).isClosed = false := by
  have r : (lineAt i s).reclaimable = true := hi.elim (h.2.2.2 i).mp id
  refine ⟨r, ?_⟩
  revert r
  cases lineAt i s <;> simp [Line.reclaimable, Line.isClosed]

theorem drop_linesOrdered {i : LineIx} {s : State} (h : LinesOrdered s)
    (hi : i ∈ s.staging.lru ∨ (lineAt i s).reclaimable = true) : LinesOrdered (setLine i .free s) :=
  setLine_linesOrdered h (not_closed_of_lru h hi).2 rfl

theorem lineResult_linesOrdered (i : LineIx) (x : FetchResult) {s : State} (h : LinesOrdered s) :
    LinesOrdered (lineResult i x s) := by
  unfold lineResult
  split
  · next b f r stale tag hl =>
    refine setLine_linesOrdered h (by simp [hl, Line.isClosed]) ?_
    cases stale <;> cases x <;> rfl
  · exact h

theorem move_linesOrdered {s t : State} (move : Move s t) (h : LinesOrdered s) : LinesOrdered t := by
  cases move with
  | same h' => exact linesOrdered_congr h (by rw [h'.2.1]) (by rw [h'.2.1]) (by rw [h'.2.1])
  | close i => exact closeLine_linesOrdered i h
  | free p => exact freeReads_linesOrdered p h
  | drop i hi => exact drop_linesOrdered h hi
  | consume next hl => exact setLine_linesOrdered h (by simp [hl, Line.isClosed]) rfl
  | merge d v t hl => exact setLine_linesOrdered h (by simp [hl, Line.isClosed]) rfl
  | gather d v t unused alone new cur => exact setLine_linesOrdered h (by simp [unused, Line.isClosed]) rfl
  | fetch f readStart p dropped taken tag cur new =>
    rw [bindFetch_of_tag ((lowestFreeTag_congr (fetch_tracker dropped taken)).trans tag)]
    have hv := fetch_path h dropped taken (fun s hs => freeReads_linesOrdered p hs) (fun s j hs hj => drop_linesOrdered hs hj)
    obtain ⟨free, _⟩ := taken_path taken
    exact setLine_linesOrdered (linesOrdered_congr hv rfl rfl rfl)
      (by rw [lineAt_setTracker, free]; rfl) rfl
  | result x state purpose => exact lineResult_linesOrdered _ x (linesOrdered_congr h (by simp) (by simp) (by simp))
  | retire state purpose => exact linesOrdered_congr h (by simp) (by simp) (by simp)
  | allocate h' purpose =>
    rw [(allocateTag_eq h').2]
    exact linesOrdered_congr h rfl rfl rfl
  | moveClosed room => exact moveClosed_linesOrdered h
  | loss => exact linesOrdered_congr (lossStaging_linesOrdered s) (by simp) (by simp) (by simp)
  | reset staging =>
    refine linesOrdered_congr (s := s.setStaging Staging.reset) ?_ (by rw [staging]; rfl) (by rw [staging]; rfl)
      (by rw [staging]; rfl)
    have lines : ∀ j, lineAt j (s.setStaging Staging.reset) = .free := fun j => by simp [lineAt, Staging.reset]
    refine ⟨List.nodup_nil, fun i => ?_, List.nodup_nil, fun i => ?_⟩
    · rw [lines]
      simp [Staging.reset, Line.isClosed]
    · rw [lines]
      simp [Staging.reset, Line.reclaimable]
  | _ => exact linesOrdered_congr h (by simp) (by simp) (by simp)

/-! ### Lines that stay what they are, or less -/

/-- The line has become FREE, or has the same binding, and is CLOSED, stale or GATHERING only as a move allows that binds
nothing (R36, R38). -/
def Line.Keeps (old new : Line) : Prop :=
  new = .free ∨
    (new.binding = old.binding ∧ new.isRead = old.isRead ∧ new.isWrite = old.isWrite ∧
      (old.isStale = true → new.isStale = true) ∧ (old.isClosed = true → new.isClosed = true) ∧
      (new.isGathering = true → old.isGathering = true))

theorem Line.keeps_refl (l : Line) : l.Keeps l := .inr ⟨rfl, rfl, rfl, id, id, id⟩

theorem Line.keeps_freed (l : Line) : l.Keeps l.freed := by
  cases l <;> simp [Line.Keeps, Line.freed, Line.binding, Line.isRead, Line.isWrite, Line.isStale, Line.isClosed, Line.isGathering]

theorem Line.keeps_atLoss (l : Line) : l.Keeps l.atLoss := by
  cases l with
  | fetching b f r stale tag =>
    cases stale <;>
      simp [Line.Keeps, Line.atLoss, Line.binding, Line.isRead, Line.isWrite, Line.isStale, Line.isClosed, Line.isGathering]
  | _ => exact .inl rfl

theorem Line.keeps_result (x : FetchResult) (b : Binding) (f : FetchSpan) (r : Option Nat) (stale : Bool) (tag : TagRef) :
    (Line.fetching b f r stale tag).Keeps (Line.result x (.fetching b f r stale tag)) := by
  cases stale <;> cases x <;>
    simp [Line.Keeps, Line.result, Line.binding, Line.isRead, Line.isWrite, Line.isStale, Line.isClosed, Line.isGathering]

/-- Every line stays what it is, or less. -/
def LinesKept (s t : State) : Prop := ∀ j, (lineAt j s).Keeps (lineAt j t)

theorem linesKept_of_eq {s t : State} (h : t.staging.lines = s.staging.lines) : LinesKept s t := fun j => by
  rw [lineAt, lineAt, h]
  exact Line.keeps_refl _

theorem setLine_kept {i : LineIx} {l : Line} {s : State} (h : (lineAt i s).Keeps l) : LinesKept s (setLine i l s) := by
  intro j
  rw [lineAt_setLine]
  split
  · next e => exact e ▸ h
  · exact Line.keeps_refl _

theorem closeLine_kept (i : LineIx) (s : State) : LinesKept s (closeLine s i) := by
  intro j
  rw [lineAt_closeLine]
  split
  · next e =>
    subst e
    cases lineAt i s <;>
      simp [Line.Keeps, Line.binding, Line.isRead, Line.isWrite, Line.isStale, Line.isClosed, Line.isGathering]
  · exact Line.keeps_refl _

theorem freeReads_kept (p : Line → Bool) (s : State) : LinesKept s (freeReads p s) := by
  intro j
  rw [lineAt_freeReads]
  split
  · exact Line.keeps_freed _
  · exact Line.keeps_refl _

theorem drop_kept (i : LineIx) (s : State) : LinesKept s (setLine i .free s) := setLine_kept (.inl rfl)

theorem lineResult_kept (i : LineIx) (x : FetchResult) (s : State) : LinesKept s (lineResult i x s) := by
  unfold lineResult
  split
  · next hl => exact setLine_kept (by rw [hl]; exact Line.keeps_result ..)
  · exact linesKept_of_eq rfl

theorem moveClosed_kept (s : State) : LinesKept s (moveClosed s) := by
  unfold moveClosed
  split
  · exact linesKept_of_eq rfl
  · split
    · intro j
      simp only [lineAt, joinPosted_frame, State.setStaging_staging, Table.get_set]
      split
      · exact .inl rfl
      · exact Line.keeps_refl _
    · exact linesKept_of_eq rfl

/-- A move binds a line, or leaves every line what it is or less. -/
theorem move_kept {s t : State} (move : Move s t) :
    LinesKept s t ∨
      (∃ i b d v x, lineAt i s = .free ∧ (∀ j, (lineAt j s).isGathering = true → (lineAt j s).ofSlot b.slot = false) ∧
        (∀ j, (lineAt j s).isWrite = true → (lineAt j s).ofSlotLine b.slot b.hostLine = false) ∧ current b s = true ∧
        t = setLine i (.gathering b d v x) s) ∨
      ∃ u v i b k f readStart p, (u = s ∨ ∃ j, (lineAt j s).reclaimable = true ∧ u = setLine j .free s) ∧
        TakesLine b.slot i (freeReads p u) v ∧ lowestFreeTag s = some k ∧ current b s = true ∧
        (LinesCurrent s → LinesDistinct s → ∀ j, (lineAt j (freeReads p u)).isRead = true →
          (lineAt j (freeReads p u)).ofSlotLine b.slot b.hostLine = true → (lineAt j (freeReads p u)).isStale = true) ∧
        t = bindFetch i b f readStart v := by
  cases move with
  | same h => exact .inl (linesKept_of_eq (by rw [h.2.1]))
  | close i => exact .inl (closeLine_kept i s)
  | free p => exact .inl (freeReads_kept p s)
  | drop i hi => exact .inl (drop_kept i s)
  | consume next hl =>
    exact .inl (setLine_kept (by rw [hl]; exact .inr ⟨rfl, rfl, rfl, id, id, id⟩))
  | merge d v t hl => exact .inl (setLine_kept (by rw [hl]; exact .inr ⟨rfl, rfl, rfl, id, id, id⟩))
  | gather d v x unused alone new cur => exact .inr (.inl ⟨_, _, d, v, x, unused, alone, new, cur, rfl⟩)
  | fetch f readStart p dropped taken tag cur new =>
    exact .inr (.inr ⟨_, _, _, _, _, f, readStart, p, dropped, taken, tag, cur, new, rfl⟩)
  | result x state purpose => exact .inl (lineResult_kept _ x _)
  | allocate h purpose => exact .inl (linesKept_of_eq (by rw [(allocateTag_eq h).2]; rfl))
  | moveClosed room => exact .inl (moveClosed_kept s)
  | loss => exact .inl fun j => by simpa [lineAt, lossTracker, lossStaging] using Line.keeps_atLoss _
  | reset staging => exact .inl fun j => .inl (by simp [lineAt, staging, Staging.reset])
  | _ => exact .inl (linesKept_of_eq (by simp))

/-! ### Current lines -/

theorem current_congr {b : Binding} {s t : State} (h : t.pageMap.entries = s.pageMap.entries) :
    current b t = current b s := by rw [current, current, h]

theorem linesCurrent_of_kept {s t : State} (h : LinesCurrent s) (kept : LinesKept s t)
    (entries : t.pageMap.entries = s.pageMap.entries) : LinesCurrent t := by
  intro i b hb hc hs
  rw [current_congr entries]
  obtain free | ⟨binding, _, _, stale, closed, _⟩ := kept i
  · simp [free, Line.binding] at hb
  · refine h i b (binding ▸ hb) ?_ ?_
    · exact Bool.eq_false_iff.mpr fun c => by simp [closed c] at hc
    · exact Bool.eq_false_iff.mpr fun c => by simp [stale c] at hs

theorem setLine_linesCurrent {i : LineIx} {l : Line} {s : State} (h : LinesCurrent s)
    (new : ∀ b, l.binding = some b → current b s = true) : LinesCurrent (setLine i l s) := by
  intro j b hb hc hs
  rw [lineAt_setLine] at hb hc hs
  rw [current_congr (s := s) (by simp)]
  by_cases e : i = j
  · rw [if_pos e] at hb
    exact new b hb
  · rw [if_neg e] at hb hc hs
    exact h j b hb hc hs

/-- The map entries change by the move of that name alone, or with every line gone. -/
theorem move_entries {s t : State} (move : Move s t) :
    t.pageMap.entries = s.pageMap.entries ∨ (∀ j, lineAt j t = .free) ∨
      (t.staging = s.staging ∧ ∀ (i : LineIx) (b : Binding), (lineAt i s).binding = some b →
        (lineAt i s).isClosed = false → (lineAt i s).isStale = false → current b s = true →
        (t.pageMap.entries.get b.mapIndex).epoch = (s.pageMap.entries.get b.mapIndex).epoch) := by
  cases move with
  | same h => exact .inl (by rw [h.1])
  | close i => exact .inl (by simp)
  | fetch f readStart p dropped taken tag cur new => exact .inl (by simp [fetch_pageMap dropped taken])
  | allocate h purpose => exact .inl (by rw [(allocateTag_eq h).2]; rfl)
  | moveClosed room => exact .inl (by simp)
  | entries table h => exact .inr (.inr ⟨rfl, h⟩)
  | reset staging => exact .inr (.inl fun j => by simp [lineAt, staging, Staging.reset])
  | _ => exact .inl (by simp)

theorem move_linesCurrent {s t : State} (move : Move s t) (h : LinesCurrent s) : LinesCurrent t := by
  obtain entries | free | ⟨staging, epochs⟩ := move_entries move
  · obtain kept | ⟨i, b, d, v, x, _, _, _, cur, rfl⟩ |
      ⟨u, v, i, b, k, f, readStart, p, dropped, taken, tag, cur, _, rfl⟩ := move_kept move
    · exact linesCurrent_of_kept h kept entries
    · exact setLine_linesCurrent h fun b' hb => by simp only [Line.binding, Option.some.injEq] at hb; exact hb ▸ cur
    · have hv : LinesCurrent v := fetch_path h dropped taken
        (fun s hs => linesCurrent_of_kept hs (freeReads_kept p s) (by simp))
        (fun s j hs _ => linesCurrent_of_kept hs (drop_kept j s) (by simp))
      rw [bindFetch_of_tag ((lowestFreeTag_congr (fetch_tracker dropped taken)).trans tag)]
      refine setLine_linesCurrent (s := v.setTracker _) hv fun b' hb => ?_
      simp only [Line.binding, Option.some.injEq] at hb
      rw [← hb, current_congr (s := s) (by simp [fetch_pageMap dropped taken])]
      exact cur
  · intro i b hb
    simp [free, Line.binding] at hb
  · intro i b hb hc hs
    have line : lineAt i t = lineAt i s := by rw [lineAt, lineAt, staging]
    rw [line] at hb hc hs
    have old := h i b hb hc hs
    have epoch := epochs i b hb hc hs old
    simp only [current, beq_iff_eq] at old ⊢
    rw [old, epoch]

/-! ### No two lines on one host line of a slot -/

theorem keeps_line {l m : Line} (h : l.Keeps m) {slot : Slot} {a : HostAddr} (hm : m.ofSlotLine slot a = true) :
    l.ofSlotLine slot a = true ∧ m.isRead = l.isRead ∧ m.isWrite = l.isWrite ∧ (l.isStale = true → m.isStale = true) := by
  obtain rfl | ⟨binding, read, write, stale, _⟩ := h
  · simp [Line.ofSlotLine, Line.binding] at hm
  · rw [ofSlotLine_eq, binding] at hm
    rw [ofSlotLine_eq]
    exact ⟨hm, read, write, stale⟩

theorem linesDistinct_of_kept {s t : State} (h : LinesDistinct s) (kept : LinesKept s t) : LinesDistinct t := by
  intro i j slot a ne hi hj
  obtain ⟨li, ri, wi, si⟩ := keeps_line (kept i) hi
  obtain ⟨lj, rj, wj, sj⟩ := keeps_line (kept j) hj
  obtain ⟨reads, writes⟩ := h i j slot a ne li lj
  rw [ri, rj, wi, wj]
  exact ⟨fun hr hr' => (reads hr hr').imp si sj, writes⟩

/-- A read line bound beside lines of its host line that are all stale, or a write line beside none (R23). -/
theorem setLine_linesDistinct {i : LineIx} {l : Line} {b : Binding} {s : State} (h : LinesDistinct s)
    (binding : l.binding = some b)
    (new : ∀ j, j ≠ i → (lineAt j s).ofSlotLine b.slot b.hostLine = true →
      (l.isRead = true → (lineAt j s).isRead = true → (lineAt j s).isStale = true) ∧
        (l.isWrite = true → (lineAt j s).isWrite = false)) : LinesDistinct (setLine i l s) := by
  have own : ∀ slot a, l.ofSlotLine slot a = true → b.slot = slot ∧ b.hostLine = a := by
    intro slot a hl
    simpa [Line.ofSlotLine, binding] using hl
  intro j k slot a ne hj hk
  rw [lineAt_setLine] at hj hk ⊢
  rw [lineAt_setLine]
  by_cases ej : i = j
  · have ek : ¬ i = k := fun e => ne (ej ▸ e)
    simp only [if_pos ej, if_neg ek] at hj hk ⊢
    obtain ⟨rfl, rfl⟩ := own slot a hj
    obtain ⟨reads, writes⟩ := new k (fun e => ek e.symm) hk
    exact ⟨fun hr hr' => .inr (reads hr hr'), writes⟩
  · by_cases ek : i = k
    · simp only [if_neg ej, if_pos ek] at hj hk ⊢
      obtain ⟨rfl, rfl⟩ := own slot a hk
      obtain ⟨reads, writes⟩ := new j (fun e => ej e.symm) hj
      refine ⟨fun hr hr' => .inl (reads hr' hr), fun hw => ?_⟩
      cases hl : l.isWrite
      · rfl
      · simp [writes hl] at hw
    · simp only [if_neg ej, if_neg ek] at hj hk ⊢
      exact h j k slot a ne hj hk

theorem move_linesDistinct {s t : State} (move : Move s t) (cur : LinesCurrent s) (h : LinesDistinct s) :
    LinesDistinct t := by
  obtain kept | ⟨i, b, d, v, x, _, _, new, _, rfl⟩ |
    ⟨u, v, i, b, k, f, readStart, p, dropped, taken, tag, _, new, rfl⟩ := move_kept move
  · exact linesDistinct_of_kept h kept
  · refine setLine_linesDistinct h rfl fun j _ hj => ⟨fun hr => by simp [Line.isRead] at hr, fun _ => ?_⟩
    exact Bool.eq_false_iff.mpr fun hw => by simp [new j hw] at hj
  · have hv : LinesDistinct v := fetch_path h dropped taken
      (fun s hs => linesDistinct_of_kept hs (freeReads_kept p s)) (fun s j hs _ => linesDistinct_of_kept hs (drop_kept j s))
    rw [bindFetch_of_tag ((lowestFreeTag_congr (fetch_tracker dropped taken)).trans tag)]
    refine setLine_linesDistinct (s := v.setTracker _) hv rfl fun j _ hj => ⟨fun _ hr => ?_, fun hw => by simp [Line.isWrite] at hw⟩
    rw [lineAt_setTracker] at hj hr ⊢
    obtain ⟨_, rfl | ⟨m, _, rfl⟩⟩ := taken_path taken
    · exact new cur h j hr hj
    · obtain ⟨hj', read, _, stale⟩ := keeps_line (drop_kept m (freeReads p u) j) hj
      exact stale (new cur h j (read ▸ hr) hj')

/-! ### The quotas -/

theorem items_eq_map (s : State) : s.staging.lines.items = allLines.map (fun i => lineAt i s) := by
  unfold lineAt Table.get
  obtain ⟨items, size⟩ := s.staging.lines
  match items, size with
  | [_, _, _, _, _, _, _, _], _ => rfl

/-- Lines are counted over their indexes. -/
theorem count_eq_card (p : Line → Bool) (s : State) :
    (s.staging.lines.items.filter p).length = (Finset.univ.filter (fun i => p (lineAt i s) = true)).card := by
  have all : (Finset.univ : Finset LineIx) = allLines.toFinset := by decide
  rw [items_eq_map, List.filter_map, List.length_map, all, ← List.toFinset_filter,
    List.toFinset_card_of_nodup (allLines_nodup.filter _)]
  rfl

/-- The slot's read lines, and its GATHERING lines. -/
def countsOf (slot : Slot) : List (Line → Bool) :=
  [fun l => l.isRead && l.ofSlot slot, fun l => l.isGathering && l.ofSlot slot]

theorem count_of_kept {slot : Slot} {p : Line → Bool} {s t : State} (hp : p ∈ countsOf slot) (kept : LinesKept s t) :
    (t.staging.lines.items.filter p).length ≤ (s.staging.lines.items.filter p).length := by
  rw [count_eq_card, count_eq_card]
  refine Finset.card_le_card fun j hj => ?_
  simp only [Finset.mem_filter, Finset.mem_univ, true_and] at hj ⊢
  obtain free | ⟨binding, read, _, _, _, gathering⟩ := kept j
  · obtain rfl | rfl : p = _ ∨ p = _ := by simpa [countsOf] using hp
    · simp [free, Line.isRead] at hj
    · simp [free, Line.isGathering] at hj
  · have own : (lineAt j t).ofSlot slot = (lineAt j s).ofSlot slot := by rw [ofSlot_eq, ofSlot_eq, binding]
    obtain rfl | rfl : p = _ ∨ p = _ := by simpa [countsOf] using hp
    · simpa only [read, own] using hj
    · simp only [Bool.and_eq_true, own] at hj ⊢
      exact ⟨gathering hj.1, hj.2⟩

theorem withinQuotas_of_kept {s t : State} (h : WithinQuotas s) (kept : LinesKept s t) : WithinQuotas t := fun slot =>
  ⟨(count_of_kept (slot := slot) (by simp [countsOf]) kept).trans (h slot).1,
    (count_of_kept (slot := slot) (by simp [countsOf]) kept).trans (h slot).2⟩

theorem count_setLine (p : Line → Bool) (i : LineIx) (l : Line) (s : State) :
    ((setLine i l s).staging.lines.items.filter p).length ≤
      (s.staging.lines.items.filter p).length + (if p l then 1 else 0) := by
  rw [count_eq_card, count_eq_card]
  have sub : (Finset.univ.filter fun j => p (lineAt j (setLine i l s)) = true) ⊆
      (Finset.univ.filter fun j => p (lineAt j s) = true) ∪ (if p l then {i} else ∅) := by
    intro j hj
    simp only [Finset.mem_filter, Finset.mem_univ, true_and, lineAt_setLine, Finset.mem_union] at hj ⊢
    by_cases e : i = j
    · rw [if_pos e] at hj
      simp [hj, e]
    · rw [if_neg e] at hj
      exact .inl hj
  refine (Finset.card_le_card sub).trans ((Finset.card_union_le _ _).trans ?_)
  split <;> simp

/-- A line of the slot given up makes room (R25 step 2). -/
theorem count_drop {p : Line → Bool} {i : LineIx} {s : State} (hi : p (lineAt i s) = true) (hf : p .free = false) :
    ((setLine i .free s).staging.lines.items.filter p).length < (s.staging.lines.items.filter p).length := by
  rw [count_eq_card, count_eq_card]
  refine Finset.card_lt_card (Finset.ssubset_iff_of_subset ?_ |>.mpr ⟨i, by simpa using hi, by simp [lineAt_setLine, hf]⟩)
  intro j hj
  simp only [Finset.mem_filter, Finset.mem_univ, true_and, lineAt_setLine] at hj ⊢
  split at hj
  · simp [hf] at hj
  · exact hj

/-- In the state in which a miss binds its line the slot has at most one read line (R22, R25). -/
theorem taken_room {slot : Slot} {i : LineIx} {w v : State} (h : TakesLine slot i w v) (ordered : LinesOrdered w)
    (quotas : WithinQuotas w) : readLineCount slot v < 2 := by
  obtain ⟨room, _, rfl⟩ | ⟨room, _, _, rfl⟩ | ⟨_, j, hj, rfl, _⟩ := h
  · exact room
  · rw [reclaimed_eq]
    exact (count_of_kept (slot := slot) (by simp [countsOf]) (drop_kept i w)).trans_lt room
  · rw [reclaimed_eq]
    obtain ⟨reclaimable, _⟩ := not_closed_of_lru ordered (.inl (List.mem_of_find?_eq_some hj))
    have own : (lineAt j w).ofSlot slot = true := by simpa using List.find?_some hj
    have read : (lineAt j w).isRead = true := by
      revert reclaimable
      cases lineAt j w <;> simp [Line.reclaimable, Line.isRead]
    exact (count_drop (by simp [read, own]) (by simp [Line.isRead])).trans_le (quotas slot).1

theorem ofSlot_of_binding {l : Line} {b : Binding} (h : l.binding = some b) (slot : Slot) :
    l.ofSlot slot = (b.slot == slot) := by
  rw [ofSlot_eq, h]
  rfl

theorem move_withinQuotas {s t : State} (move : Move s t) (ordered : LinesOrdered s) (h : WithinQuotas s) :
    WithinQuotas t := by
  obtain kept | ⟨i, b, d, v, x, _, alone, _, _, rfl⟩ |
    ⟨u, v, i, b, k, f, readStart, p, dropped, taken, tag, _, _, rfl⟩ := move_kept move
  · exact withinQuotas_of_kept h kept
  · intro slot
    have reads := count_setLine (fun l => l.isRead && l.ofSlot slot) i (.gathering b d v x) s
    have gatherings := count_setLine (fun l => l.isGathering && l.ofSlot slot) i (.gathering b d v x) s
    refine ⟨reads.trans (h slot).1, gatherings.trans ?_⟩
    by_cases own : b.slot = slot
    · have none : s.staging.lines.items.filter (fun l => l.isGathering && l.ofSlot slot) = [] := by
        rw [List.filter_eq_nil_iff]
        intro l hl
        obtain ⟨j, rfl⟩ := Table.mem_items.mp hl
        have := alone j
        rw [own] at this
        simpa [lineAt] using this
      simp only [none, List.length_nil]
      split <;> simp
    · have other : (Line.gathering b d v x).ofSlot slot = false := by
        rw [ofSlot_of_binding (b := b) rfl]
        simpa using own
      simpa [other] using (h slot).2
  · have kept : LinesOrdered (freeReads p u) ∧ WithinQuotas (freeReads p u) := by
      obtain rfl | ⟨j, hj, rfl⟩ := dropped
      · exact ⟨freeReads_linesOrdered p ordered, withinQuotas_of_kept h (freeReads_kept p _)⟩
      · exact ⟨freeReads_linesOrdered p (drop_linesOrdered ordered (.inr hj)),
          withinQuotas_of_kept (withinQuotas_of_kept h (drop_kept j s)) (freeReads_kept p _)⟩
    have room := taken_room taken kept.1 kept.2
    have hv : WithinQuotas v := by
      obtain ⟨_, rfl | ⟨m, _, rfl⟩⟩ := taken_path taken
      · exact kept.2
      · exact withinQuotas_of_kept kept.2 (drop_kept m _)
    rw [bindFetch_of_tag ((lowestFreeTag_congr (fetch_tracker dropped taken)).trans tag)]
    intro slot
    have reads := count_setLine (fun l => l.isRead && l.ofSlot slot) i
      (.fetching b f readStart false ⟨k, (v.tracker.tags.get k).generation⟩) (v.setTracker (allocated k
          { purpose := .lineFetch i, hostAddress := b.hostLine + BitVec.ofNat 48 f.start, length := f.stop - f.start,
            slot := b.slot } v.tracker))
    have gatherings := count_setLine (fun l => l.isGathering && l.ofSlot slot) i
      (.fetching b f readStart false ⟨k, (v.tracker.tags.get k).generation⟩) (v.setTracker (allocated k
          { purpose := .lineFetch i, hostAddress := b.hostLine + BitVec.ofNat 48 f.start, length := f.stop - f.start,
            slot := b.slot } v.tracker))
    refine ⟨reads.trans ?_, gatherings.trans (by simpa [Line.isGathering] using (hv slot).2)⟩
    by_cases own : b.slot = slot
    · subst own
      have : readLineCount b.slot v + 1 ≤ 2 := room
      refine le_trans ?_ this
      unfold readLineCount
      simp only [State.setTracker_staging]
      split <;> simp
    · have other : ∀ tag, (Line.fetching b f readStart false tag).ofSlot slot = false := by
        intro tag
        rw [ofSlot_of_binding (b := b) rfl]
        simpa using own
      simp only [other, Bool.and_false]
      exact (hv slot).1
end Sys2Proof.Machine

namespace Sys2Proof

open Sys2Proof.Machine

/-- Settles O8: every move of the Staging Unit keeps its two orders, its bindings current and apart. -/
theorem stepKeepsLineOrders : Obligations.StepKeepsLineOrders := by
  refine ⟨fun s t hs h => moves_keep (fun _ _ => move_linesOrdered) (step_moves h) hs,
    fun s t hs h => moves_keep (fun _ _ => move_linesCurrent) (step_moves h) hs, fun s t cur hs h => ?_⟩
  exact (moves_keep (P := fun x => LinesCurrent x ∧ LinesDistinct x)
    (fun _ _ move old => ⟨move_linesCurrent move old.1, move_linesDistinct move old.1 old.2⟩) (step_moves h) ⟨cur, hs⟩).2

end Sys2Proof
end

section
/-! What the moves keep of the Upstream Tracker: the request queue the WAITING tags, the FETCHING lines tied to their tags,
and the posted-write queue numbered and within its bound. -/

namespace Sys2Proof.Machine

/-! ### The request queue -/

theorem requestQueued_congr {s t : State} (h : RequestQueued s) (tracker : t.tracker.tags = s.tracker.tags)
    (queue : t.tracker.requestQueue = s.tracker.requestQueue) : RequestQueued t := by
  simpa only [RequestQueued, tracker, queue] using h

/-- A FREE tag becomes WAITING and joins the request queue (R50). -/
theorem allocated_requestQueued {k : TagIx} (q : Request) {s : State} (free : (s.tracker.tags.get k).state = .free)
    (h : RequestQueued s) : RequestQueued (s.setTracker (allocated k q s.tracker)) := by
  obtain ⟨once, waiting⟩ := h
  have out : k ∉ s.tracker.requestQueue := by simp [waiting, free]
  refine ⟨List.nodup_append.mpr ⟨once, by simp, by rintro a ha _ hb rfl; simp_all⟩, fun i => ?_⟩
  by_cases e : k = i
  · subst e
    simp [allocated]
  · have e' : ¬ i = k := fun x => e x.symm
    simp [allocated, e, e', waiting]

/-- A busy tag that is not WAITING retires (R51). -/
theorem retireTag_requestQueued {k : TagIx} {q : Request} {d : Time} {s : State}
    (state : (s.tracker.tags.get k).state = .outstanding q d) (h : RequestQueued s) : RequestQueued (retireTag k s) := by
  obtain ⟨once, waiting⟩ := h
  refine ⟨once, fun i => ?_⟩
  by_cases e : k = i
  · subst e
    simp [retireTag, TagRecord.retired, waiting, state]
  · simpa [retireTag, e] using waiting i

theorem send_requestQueued {s : State} {k : TagIx} {rest : List TagIx} {q : Request} (d : Time)
    (queue : s.tracker.requestQueue = k :: rest) (h : RequestQueued s) :
    RequestQueued (s.setTracker
      { s.tracker with
        requestQueue := rest
        tags := s.tracker.tags.set k ⟨.outstanding q d, (s.tracker.tags.get k).generation⟩ }) := by
  obtain ⟨once, waiting⟩ := h
  rw [queue] at once
  obtain ⟨gone, restOnce⟩ := List.nodup_cons.mp once
  refine ⟨restOnce, fun i => ?_⟩
  by_cases e : k = i
  · subst e
    simpa using gone
  · have e' : ¬ i = k := fun x => e x.symm
    have := waiting i
    rw [queue] at this
    simpa [e, e'] using this

/-- No tag is busy and none waits. -/
theorem idle_requestQueued {s : State} (tags : ∀ k, (s.tracker.tags.get k).state = .free)
    (queue : s.tracker.requestQueue = []) : RequestQueued s :=
  ⟨by simp [queue], fun i => by simp [queue, tags]⟩

/-- The head of the closed-order list joins the posted-write queue, if it is a CLOSED line (R37). -/
theorem moveClosed_tracker (s : State) : (moveClosed s).tracker = s.tracker ∨
    ∃ slot kind a, (moveClosed s).tracker = (joinPosted slot kind a false s).tracker := by
  unfold moveClosed
  split
  · exact .inl rfl
  · split
    · exact .inr ⟨_, _, _, rfl⟩
    · exact .inl rfl

theorem move_requestQueued {s t : State} (move : Move s t) (h : RequestQueued s) : RequestQueued t := by
  cases move with
  | same h' => exact requestQueued_congr h (by rw [h'.2.2]) (by rw [h'.2.2])
  | fetch f readStart p dropped taken tag cur new =>
    have tracker := fetch_tracker dropped taken
    have tag' := (lowestFreeTag_congr tracker).trans tag
    rw [bindFetch_of_tag tag']
    have bound := fun q => allocated_requestQueued q (lowestFreeTag_some tag')
      (requestQueued_congr h (by rw [tracker]) (by rw [tracker]))
    exact requestQueued_congr (bound _) rfl rfl
  | result x state purpose => exact requestQueued_congr (retireTag_requestQueued state h) (by simp) (by simp)
  | retire state purpose => exact retireTag_requestQueued state h
  | allocate h' purpose =>
    obtain ⟨free, rfl⟩ := allocateTag_eq h'
    exact allocated_requestQueued _ free h
  | send d queue state => exact send_requestQueued d queue h
  | join slot kind a locked room =>
    exact requestQueued_congr h (by simp [joinPosted_tracker]) (by simp [joinPosted_tracker])
  | leave h' => exact requestQueued_congr h (by simp [leavePosted]) (by simp [leavePosted])
  | moveClosed room =>
    obtain e | ⟨slot, kind, a, e⟩ := moveClosed_tracker s
    · exact requestQueued_congr h (by rw [e]) (by rw [e])
    · exact requestQueued_congr h (by rw [e, joinPosted_tracker]) (by rw [e, joinPosted_tracker])
  | loss => exact idle_requestQueued (fun k => retireAll_free _ k) rfl
  | reset staging tags queue => exact idle_requestQueued tags queue
  | _ => exact requestQueued_congr h (by simp) (by simp)

/-! ### Lines and their tags -/

/-- What a FETCHING line fetches, and under which tag (R20). -/
def Line.fetch : Line → Option (Binding × FetchSpan × TagRef)
  | .fetching b f _ _ tag => some (b, f, tag)
  | _ => none

/-- The request of a busy tag (R49). -/
def TagState.request : TagState → Option Request
  | .free => none
  | .waiting q => some q
  | .outstanding q _ => some q

/-- The request that fetches a line's bytes (R28). -/
def fetchRequest (i : LineIx) (b : Binding) (f : FetchSpan) : Request :=
  { purpose := .lineFetch i, hostAddress := b.hostLine + BitVec.ofNat 48 f.start, length := f.stop - f.start,
    slot := b.slot }

/-- Lines and tags name each other: `lines` gives what each line fetches, `tags` each tag's request and generation. -/
def Tied (lines : LineIx → Option (Binding × FetchSpan × TagRef)) (tags : TagIx → Option Request × BitVec 2) : Prop :=
  (∀ i b f g, lines i = some (b, f, g) → tags g.index = (some (fetchRequest i b f), g.generation)) ∧
    ∀ k q i, (tags k).1 = some q → q.purpose = .lineFetch i → ∃ b f, lines i = some (b, f, ⟨k, (tags k).2⟩)

/-- What each line of a state fetches. -/
def fetchesOf (s : State) (i : LineIx) : Option (Binding × FetchSpan × TagRef) := (lineAt i s).fetch

/-- Each tag's request and generation. -/
def requestsOf (s : State) (k : TagIx) : Option Request × BitVec 2 :=
  ((s.tracker.tags.get k).state.request, (s.tracker.tags.get k).generation)

theorem busyWith_iff {k : TagIx} {q : Request} {s : State} : BusyWith k q s ↔ (requestsOf s k).1 = some q := by
  unfold BusyWith requestsOf
  cases (s.tracker.tags.get k).state <;> simp [TagState.request]

theorem fetch_eq_some {l : Line} {b : Binding} {f : FetchSpan} {g : TagRef} :
    l.fetch = some (b, f, g) ↔ ∃ readStart stale, l = .fetching b f readStart stale g := by
  cases l <;> simp [Line.fetch]

theorem fetchesTied_iff (s : State) : FetchesTied s ↔ Tied (fetchesOf s) (requestsOf s) := by
  simp only [FetchesTied, Tied, fetchesOf, fetch_eq_some, busyWith_iff, requestsOf, Prod.ext_iff, fetchRequest]
  constructor
  · rintro ⟨lines, tags⟩
    exact ⟨fun i b f g ⟨r, stale, hl⟩ => (lines i b f r stale g hl).symm,
      fun k q i hk hp => by obtain ⟨b, f, r, stale, hl⟩ := tags k q i hk hp; exact ⟨b, f, r, stale, hl⟩⟩
  · rintro ⟨lines, tags⟩
    exact ⟨fun i b f r stale g hl => (lines i b f g ⟨r, stale, hl⟩).symm,
      fun k q i hk hp => by obtain ⟨b, f, r, stale, hl⟩ := tags k q i hk hp; exact ⟨b, f, r, stale, hl⟩⟩

theorem tied_congr {s t : State} (h : Tied (fetchesOf s) (requestsOf s)) (lines : ∀ i, fetchesOf t i = fetchesOf s i)
    (tags : ∀ k, requestsOf t k = requestsOf s k) : Tied (fetchesOf t) (requestsOf t) := by
  rwa [funext lines, funext tags]

/-- Nothing is fetched and no tag is busy. -/
theorem tied_nothing {lines : LineIx → Option (Binding × FetchSpan × TagRef)} {tags : TagIx → Option Request × BitVec 2}
    (hl : ∀ i, lines i = none) (ht : ∀ k, (tags k).1 = none) : Tied lines tags :=
  ⟨fun i b f g h => by simp [hl] at h, fun k q i h => by simp [ht] at h⟩

/-- A line and a tag without use take each other (R28, R50). -/
theorem tied_bind {lines : LineIx → Option (Binding × FetchSpan × TagRef)} {tags : TagIx → Option Request × BitVec 2}
    {i : LineIx} {k : TagIx} (b : Binding) (f : FetchSpan) (h : Tied lines tags) (line : lines i = none)
    (tag : (tags k).1 = none) :
    Tied (Function.update lines i (some (b, f, ⟨k, (tags k).2⟩)))
      (Function.update tags k (some (fetchRequest i b f), (tags k).2)) := by
  obtain ⟨named, naming⟩ := h
  constructor
  · intro j b' f' g hj
    by_cases e : j = i
    · subst e
      simp only [Function.update_self, Option.some.injEq, Prod.mk.injEq] at hj
      obtain ⟨rfl, rfl, rfl⟩ := hj
      simp
    · rw [Function.update_of_ne e] at hj
      have old := named j b' f' g hj
      have other : g.index ≠ k := fun e' => by simp [← e', old] at tag
      rw [Function.update_of_ne other, old]
  · intro m q j hm hp
    by_cases e : m = k
    · subst e
      simp only [Function.update_self, Option.some.injEq] at hm
      obtain rfl : i = j := by simpa [← hm, fetchRequest] using hp
      exact ⟨b, f, by simp⟩
    · rw [Function.update_of_ne e] at hm ⊢
      obtain ⟨b', f', hl⟩ := naming m q j hm hp
      have other : j ≠ i := fun e' => by simp [← e', hl] at line
      exact ⟨b', f', by rw [Function.update_of_ne other, hl]⟩

/-- A tag that fetches a line ends together with the fetch (R51, R32). -/
theorem tied_result {lines : LineIx → Option (Binding × FetchSpan × TagRef)} {tags : TagIx → Option Request × BitVec 2}
    {i : LineIx} {k : TagIx} {q : Request} (g : BitVec 2) (h : Tied lines tags) (busy : (tags k).1 = some q)
    (purpose : q.purpose = .lineFetch i) :
    Tied (Function.update lines i none) (Function.update tags k (none, g)) := by
  obtain ⟨named, naming⟩ := h
  constructor
  · intro j b f t hj
    by_cases e : j = i
    · simp [e] at hj
    · rw [Function.update_of_ne e] at hj
      have old := named j b f t hj
      have other : t.index ≠ k := by
        intro e'
        rw [← e', old, Option.some.injEq] at busy
        rw [← busy] at purpose
        exact e (by simpa [fetchRequest] using purpose)
      rw [Function.update_of_ne other, old]
  · intro m q' j hm hp
    by_cases e : m = k
    · simp [e] at hm
    · rw [Function.update_of_ne e] at hm ⊢
      obtain ⟨b, f, hl⟩ := naming m q' j hm hp
      have other : j ≠ i := by
        rintro rfl
        obtain ⟨b', f', hl'⟩ := naming k q j busy purpose
        rw [hl] at hl'
        simp only [Option.some.injEq, Prod.mk.injEq, TagRef.mk.injEq] at hl'
        exact e hl'.2.2.1
      exact ⟨b, f, by rw [Function.update_of_ne other, hl]⟩

/-- A tag that fetches no line before or after changes its request (R50, R51). -/
theorem tied_other {lines : LineIx → Option (Binding × FetchSpan × TagRef)} {tags : TagIx → Option Request × BitVec 2}
    {k : TagIx} (x : Option Request × BitVec 2) (h : Tied lines tags) (old : ∀ q, (tags k).1 = some q → q.fetches = false)
    (new : ∀ q, x.1 = some q → q.fetches = false) : Tied lines (Function.update tags k x) := by
  obtain ⟨named, naming⟩ := h
  constructor
  · intro i b f g hi
    have was := named i b f g hi
    have other : g.index ≠ k := fun e => by
      have := old _ (by rw [← e, was])
      simp [Request.fetches, fetchRequest] at this
    rw [Function.update_of_ne other, was]
  · intro m q i hm hp
    by_cases e : m = k
    · subst e
      simp only [Function.update_self] at hm
      have := new q hm
      simp [Request.fetches, hp] at this
    · rw [Function.update_of_ne e] at hm ⊢
      exact naming m q i hm hp

/-! ### Every move keeps lines and tags tied -/

theorem fetchesOf_congr {s t : State} (h : t.staging.lines = s.staging.lines) (i : LineIx) :
    fetchesOf t i = fetchesOf s i := by rw [fetchesOf, fetchesOf, lineAt, lineAt, h]

theorem requestsOf_congr {s t : State} (h : t.tracker.tags = s.tracker.tags) (k : TagIx) :
    requestsOf t k = requestsOf s k := by rw [requestsOf, requestsOf, h]

theorem fetchesOf_setLine (i : LineIx) (l : Line) (s : State) :
    fetchesOf (setLine i l s) = Function.update (fetchesOf s) i l.fetch := by
  funext j
  rw [fetchesOf, lineAt_setLine, Function.update_apply, apply_ite Line.fetch]
  simp only [eq_comm (a := i), fetchesOf]

theorem requestsOf_setLine (i : LineIx) (l : Line) (s : State) : requestsOf (setLine i l s) = requestsOf s :=
  funext (requestsOf_congr rfl)

theorem requestsOf_lineResult (i : LineIx) (x : FetchResult) (s : State) :
    requestsOf (lineResult i x s) = requestsOf s := funext (requestsOf_congr (by simp))

theorem setLine_fetches {i : LineIx} {l : Line} {s : State} (h : l.fetch = (lineAt i s).fetch) (j : LineIx) :
    fetchesOf (setLine i l s) j = fetchesOf s j := by
  rw [fetchesOf_setLine, h]
  exact congrFun (Function.update_eq_self i (fetchesOf s)) j

theorem freed_fetch (l : Line) : l.freed.fetch = l.fetch := by cases l <;> rfl

theorem freeReads_fetches (p : Line → Bool) (s : State) (j : LineIx) : fetchesOf (freeReads p s) j = fetchesOf s j := by
  rw [fetchesOf, lineAt_freeReads]
  split
  · exact freed_fetch _
  · rfl

theorem closeLine_fetches (i : LineIx) (s : State) (j : LineIx) : fetchesOf (closeLine s i) j = fetchesOf s j := by
  rw [fetchesOf, fetchesOf, lineAt_closeLine]
  split
  · next e =>
    subst e
    cases lineAt i s <;> rfl
  · rfl

theorem drop_fetches {i : LineIx} {s : State} (ordered : LinesOrdered s)
    (hi : i ∈ s.staging.lru ∨ (lineAt i s).reclaimable = true) (j : LineIx) :
    fetchesOf (setLine i .free s) j = fetchesOf s j := by
  refine setLine_fetches ?_ j
  have := (not_closed_of_lru ordered hi).1
  revert this
  cases lineAt i s <;> simp [Line.reclaimable, Line.fetch]

theorem moveClosed_fetches (s : State) (j : LineIx) : fetchesOf (moveClosed s) j = fetchesOf s j := by
  unfold moveClosed
  split
  · rfl
  · next i rest _ =>
    split
    · next hl =>
      simp only [fetchesOf, lineAt, joinPosted_frame, State.setStaging_staging, Table.get_set]
      split
      · next e =>
        rw [← e, show s.staging.lines.get i = _ from hl]
        rfl
      · rfl
    · rfl

theorem requestsOf_allocated (k : TagIx) (q : Request) (s : State) :
    requestsOf (s.setTracker (allocated k q s.tracker)) =
      Function.update (requestsOf s) k (some q, (s.tracker.tags.get k).generation) := by
  funext m
  by_cases e : k = m
  · subst e
    simp [requestsOf, allocated, TagState.request]
  · have e' : m ≠ k := fun x => e x.symm
    simp [requestsOf, allocated, e, e']

theorem requestsOf_retireTag (k : TagIx) (s : State) :
    requestsOf (retireTag k s) = Function.update (requestsOf s) k (none, (s.tracker.tags.get k).generation + 1) := by
  funext m
  by_cases e : k = m
  · subst e
    simp [requestsOf, retireTag, TagRecord.retired, TagState.request]
  · have e' : m ≠ k := fun x => e x.symm
    simp [requestsOf, retireTag, e, e']

theorem lineResult_fetches {i : LineIx} {b : Binding} {f : FetchSpan} {g : TagRef} (x : FetchResult) {s : State}
    (h : fetchesOf s i = some (b, f, g)) : fetchesOf (lineResult i x s) = Function.update (fetchesOf s) i none := by
  obtain ⟨readStart, stale, hl⟩ := fetch_eq_some.mp h
  have gone : (Line.result x (.fetching b f readStart stale g)).fetch = none := by
    cases stale <;> cases x <;> rfl
  rw [lineResult, hl, fetchesOf_setLine, gone]

theorem request_of_free {k : TagIx} {s : State} (h : (s.tracker.tags.get k).state = .free) : (requestsOf s k).1 = none := by
  simp [requestsOf, h, TagState.request]

theorem request_of_outstanding {k : TagIx} {q : Request} {d : Time} {s : State}
    (h : (s.tracker.tags.get k).state = .outstanding q d) : (requestsOf s k).1 = some q := by
  simp [requestsOf, h, TagState.request]

theorem move_tied {s t : State} (move : Move s t) (ordered : LinesOrdered s) (h : Tied (fetchesOf s) (requestsOf s)) :
    Tied (fetchesOf t) (requestsOf t) := by
  cases move with
  | same h' => exact tied_congr h (fetchesOf_congr (by rw [h'.2.1])) (requestsOf_congr (by rw [h'.2.2]))
  | close i => exact tied_congr h (closeLine_fetches i s) (requestsOf_congr (by simp))
  | free p => exact tied_congr h (freeReads_fetches p s) (requestsOf_congr (by simp))
  | drop i hi => exact tied_congr h (drop_fetches ordered hi) (requestsOf_congr (by simp))
  | consume next hl => exact tied_congr h (setLine_fetches (by rw [hl]; rfl)) (requestsOf_congr (by simp))
  | merge d v t hl => exact tied_congr h (setLine_fetches (by rw [hl]; rfl)) (requestsOf_congr (by simp))
  | gather d v t unused alone new cur =>
    exact tied_congr h (setLine_fetches (by rw [unused]; rfl)) (requestsOf_congr (by simp))
  | fetch f readStart p dropped taken tag cur new =>
    have tag' := (lowestFreeTag_congr (fetch_tracker dropped taken)).trans tag
    have lines := (fetch_path (P := fun x => LinesOrdered x ∧ ∀ j, fetchesOf x j = fetchesOf s j) ⟨ordered, fun _ => rfl⟩
      dropped taken (fun x hx => ⟨freeReads_linesOrdered p hx.1, fun j => (freeReads_fetches p x j).trans (hx.2 j)⟩)
      (fun x j hx hj => ⟨drop_linesOrdered hx.1 hj, fun m => (drop_fetches hx.1 hj m).trans (hx.2 m)⟩)).2
    have hv := tied_congr h lines (requestsOf_congr (by rw [fetch_tracker dropped taken]))
    obtain ⟨unused, _⟩ := taken_path taken
    have bound := fun b => tied_bind b f hv (by rw [fetchesOf, unused]; rfl) (request_of_free (lowestFreeTag_some tag'))
    rw [bindFetch_of_tag tag', fetchesOf_setLine, requestsOf_setLine, requestsOf_allocated]
    exact bound _
  | result x state purpose =>
    obtain ⟨b, f, hl⟩ := h.2 _ _ _ (request_of_outstanding state) purpose
    rw [lineResult_fetches (s := retireTag _ s) x hl, requestsOf_lineResult, requestsOf_retireTag]
    exact tied_result _ h (request_of_outstanding state) purpose
  | retire state purpose =>
    rw [requestsOf_retireTag]
    refine tied_other _ h (fun q hq => ?_) (fun q hq => by simp at hq)
    rw [request_of_outstanding state, Option.some.injEq] at hq
    exact hq ▸ purpose
  | allocate h' purpose =>
    obtain ⟨free, rfl⟩ := allocateTag_eq h'
    rw [requestsOf_allocated]
    refine tied_other _ h (fun q hq => by simp [request_of_free free] at hq) (fun q hq => ?_)
    simp only [Option.some.injEq] at hq
    exact hq ▸ purpose
  | send d queue state =>
    refine tied_congr h (fetchesOf_congr (by simp)) fun k => ?_
    simp only [requestsOf, State.setTracker_tracker, Table.get_set]
    split
    · next e => simp [← e, state, TagState.request]
    · rfl
  | join slot kind a locked room =>
    exact tied_congr h (fetchesOf_congr (by simp)) (requestsOf_congr (by simp [joinPosted_tracker]))
  | leave h' => exact tied_congr h (fetchesOf_congr (by simp)) (requestsOf_congr (by simp [leavePosted]))
  | moveClosed room =>
    refine tied_congr h (moveClosed_fetches s) (requestsOf_congr ?_)
    obtain e | ⟨slot, kind, a, e⟩ := moveClosed_tracker s
    · rw [e]
    · rw [e, joinPosted_tracker]
  | loss =>
    refine tied_nothing (fun i => ?_) fun k => request_of_free (retireAll_free _ k)
    simp only [fetchesOf, lineAt, lossTracker, lossStaging, State.setTracker_staging, State.setFreeIndex_staging,
      State.setStaging_staging, Table.get_map]
    cases s.staging.lines.get i with
    | fetching b f r stale tag => cases stale <;> rfl
    | _ => rfl
  | reset staging tags =>
    exact tied_nothing (fun i => by simp [fetchesOf, lineAt, staging, Staging.reset, Line.fetch]) fun k =>
      request_of_free (tags k)
  | _ => exact tied_congr h (fetchesOf_congr (by simp)) (requestsOf_congr (by simp))

theorem move_fetchesTied {s t : State} (move : Move s t) (ordered : LinesOrdered s) (h : FetchesTied s) :
    FetchesTied t :=
  (fetchesTied_iff t).mpr (move_tied move ordered ((fetchesTied_iff s).mp h))

/-! ### The posted-write queue -/

theorem countsUpTo_iff {w : Nat} {next : BitVec w} {x : BitVec w} {rest : List (BitVec w)} :
    CountsUpTo next (x :: rest) ↔ x + 1 = rest.headD next ∧ CountsUpTo next rest := by
  cases rest <;> simp [CountsUpTo]

theorem countsUpTo_append {w : Nat} {next : BitVec w} {xs : List (BitVec w)} (h : CountsUpTo next xs) :
    CountsUpTo (next + 1) (xs ++ [next]) := by
  induction xs with
  | nil => rfl
  | cons x rest ih =>
    obtain ⟨first, more⟩ := countsUpTo_iff.mp h
    rw [List.cons_append, countsUpTo_iff]
    refine ⟨?_, ih more⟩
    cases rest <;> simpa using first

theorem countsUpTo_tail {w : Nat} {next : BitVec w} {x : BitVec w} {rest : List (BitVec w)}
    (h : CountsUpTo next (x :: rest)) : CountsUpTo next rest := (countsUpTo_iff.mp h).2

theorem countsUpTo_drop {w : Nat} {next : BitVec w} (k : Nat) {xs : List (BitVec w)} (h : CountsUpTo next xs) :
    CountsUpTo next (xs.drop k) := by
  induction k generalizing xs with
  | zero => exact h
  | succ k ih =>
    cases xs with
    | nil => exact h
    | cons x rest => exact ih (countsUpTo_tail h)

theorem join_numbered (slot : Slot) (kind : PostedKind) (a : HostAddr) (locked : Bool) {s t : State}
    (ht : t.tracker = (joinPosted slot kind a locked s).tracker) (h : PostedNumbered s) : PostedNumbered t := by
  have := countsUpTo_append h
  simpa [PostedNumbered, ht, joinPosted_tracker] using this

theorem postedNumbered_congr {s t : State} (h : PostedNumbered s) (posted : t.tracker.posted = s.tracker.posted)
    (next : t.tracker.nextPosted = s.tracker.nextPosted) : PostedNumbered t := by
  simpa only [PostedNumbered, posted, next] using h

theorem postedNumbered_nil {s : State} (h : s.tracker.posted = []) : PostedNumbered s := by
  simp [PostedNumbered, h, CountsUpTo]

/-- A move leaves the posted-write queue alone, lets an entry join it or its head leave it, or empties it. -/
theorem move_posted {s t : State} (move : Move s t) :
    (t.tracker.posted = s.tracker.posted ∧ t.tracker.nextPosted = s.tracker.nextPosted) ∨
      (s.tracker.posted.length < 16 ∧ ∃ slot kind a locked, t.tracker = (joinPosted slot kind a locked s).tracker) ∨
      (∃ p, s.tracker.posted = p :: t.tracker.posted ∧ t.tracker.nextPosted = s.tracker.nextPosted) ∨
      t.tracker.posted = [] := by
  cases move with
  | same h => exact .inl (by simp [h.2.2])
  | fetch f readStart p dropped taken tag cur new =>
    have tracker := fetch_tracker dropped taken
    rw [bindFetch_of_tag ((lowestFreeTag_congr tracker).trans tag)]
    exact .inl (by simp [allocated, tracker])
  | allocate h purpose => exact .inl (by rw [(allocateTag_eq h).2]; exact ⟨rfl, rfl⟩)
  | join slot kind a locked room => exact .inr (.inl ⟨room, slot, kind, a, locked, rfl⟩)
  | leave h => exact .inr (.inr (.inl ⟨_, h, rfl⟩))
  | moveClosed room =>
    obtain e | ⟨slot, kind, a, e⟩ := moveClosed_tracker s
    · exact .inl (by rw [e]; exact ⟨rfl, rfl⟩)
    · exact .inr (.inl ⟨room, slot, kind, a, false, e⟩)
  | loss => exact .inr (.inr (.inr rfl))
  | reset staging tags queue posted => exact .inr (.inr (.inr posted))
  | result x state purpose => exact .inl (by simp [retireTag])
  | retire state purpose => exact .inl (by simp [retireTag])
  | _ => exact .inl (by simp)

theorem move_postedNumbered {s t : State} (move : Move s t) (h : PostedNumbered s) : PostedNumbered t := by
  obtain ⟨posted, next⟩ | ⟨_, slot, kind, a, locked, e⟩ | ⟨p, posted, next⟩ | empty := move_posted move
  · exact postedNumbered_congr h posted next
  · exact join_numbered slot kind a locked e h
  · unfold PostedNumbered at h ⊢
    rw [posted, List.map_cons] at h
    rw [next]
    exact countsUpTo_tail h
  · exact postedNumbered_nil empty

theorem move_postedBound {s t : State} (move : Move s t) (h : s.tracker.posted.length ≤ 16) :
    t.tracker.posted.length ≤ 16 := by
  obtain ⟨posted, _⟩ | ⟨room, slot, kind, a, locked, e⟩ | ⟨p, posted, _⟩ | empty := move_posted move
  · rwa [posted]
  · rw [e, joinPosted_tracker]
    simpa using room
  · rw [posted, List.length_cons] at h
    omega
  · simp [empty]

end Sys2Proof.Machine

namespace Sys2Proof

open Sys2Proof.Machine

/-- Settles O7: tags are taken with their line or for the Lock Unit, and retire with the result of their line. -/
theorem stepKeepsRequestQueue : Obligations.StepKeepsRequestQueue := by
  refine ⟨fun s t hs h => moves_keep (fun _ _ => move_requestQueued) (step_moves h) hs, fun s t ordered hs h => ?_⟩
  exact (moves_keep (P := fun x => LinesOrdered x ∧ FetchesTied x)
    (fun _ _ move old => ⟨move_linesOrdered move old.1, move_fetchesTied move old.1 old.2⟩) (step_moves h)
    ⟨ordered, hs⟩).2

end Sys2Proof
end

section
/-! The fault queue and the replay buffer: what every command does to them, their numbers and their bounds. -/

namespace Sys2Proof.Machine

/-! ### The fault queue -/

/-- One change of the fault queue. -/
inductive FaultMove : FaultUnit → FaultUnit → Prop
  /-- Queue and counter stay. -/
  | same {f g : FaultUnit} (queue : g.queue = f.queue) (next : g.nextSeq = f.nextSeq) : FaultMove f g
  /-- A record is admitted (R144). -/
  | takeIn {f g : FaultUnit} (r : FaultRecord) (room : f.queue.length < 16) (seq : r.seq = f.nextSeq)
      (queue : g.queue = f.queue ++ [r]) (next : g.nextSeq = f.nextSeq + 1) : FaultMove f g
  /-- The head is transmitted (R146). -/
  | serve {f g : FaultUnit} (r : FaultRecord) (queue : f.queue = r :: g.queue) (next : g.nextSeq = f.nextSeq) :
      FaultMove f g
  /-- The queue is emptied (R149). -/
  | empty {f g : FaultUnit} (queue : g.queue = []) : FaultMove f g

/-- A sequence of such changes, from the one state's Fault Unit to the other's. -/
def FaultMoves (s t : State) : Prop := Relation.ReflTransGen FaultMove s.faults t.faults

theorem faultMoves_refl (s : State) : FaultMoves s s := Relation.ReflTransGen.refl

theorem faultMoves_trans {s t u : State} (h : FaultMoves s t) (g : FaultMoves t u) : FaultMoves s u :=
  Relation.ReflTransGen.trans h g

theorem faultMoves_of_eq {s t : State} (h : t.faults = s.faults) : FaultMoves s t := by
  rw [FaultMoves, h]

theorem faultMoves_of_move {s t : State} (h : FaultMove s.faults t.faults) : FaultMoves s t := Relation.ReflTransGen.single h

theorem takeFault_faultMoves (r : FaultReport) (s : State) : FaultMoves s (takeFault r s) := by
  have taken := takeFault_taken r s
  unfold FaultTaken at taken
  refine faultMoves_of_move ?_
  rw [taken]
  by_cases room : s.faults.queue.length < 16
  · exact .takeIn
      { seq := s.faults.nextSeq, report := r, fenced := autofences r s, lostBefore := s.faults.dropped } room rfl
      (by simp only [room, if_true]) (by simp only [room, if_true])
  · exact .same (by simp only [room, if_false]) (by simp only [room, if_false])

/-- A report after changes elsewhere. -/
theorem takeFault_faultMoves_of_eq (r : FaultReport) {s t : State} (h : t.faults = s.faults) :
    FaultMoves s (takeFault r t) := faultMoves_trans (faultMoves_of_eq h) (takeFault_faultMoves r t)

theorem linkLoss_faultMoves (training reset : Bool) (s : State) : FaultMoves s (linkLoss training reset s) :=
  takeFault_faultMoves_of_eq _ (by simp)

theorem replayDue_faultMoves (s : State) : FaultMoves s (replayDue s) := by
  unfold replayDue
  split
  · exact faultMoves_of_eq (by simp)
  · exact linkLoss_faultMoves _ _ s

theorem replayIfAny_faultMoves (s : State) : FaultMoves s (replayIfAny s) := by
  unfold replayIfAny
  split
  · exact faultMoves_refl s
  · exact replayDue_faultMoves s

theorem applyNak_faultMoves (n : SeqNo) (s : State) : FaultMoves s (applyNak n s) := by
  unfold applyNak
  split
  · split
    · exact replayIfAny_faultMoves s
    · exact faultMoves_refl s
  · exact faultMoves_trans (faultMoves_of_eq (by simp)) (replayIfAny_faultMoves _)

theorem initFrame_faultMoves (f : InitFields) (s : State) : FaultMoves s (initFrame f s) := by
  unfold initFrame
  split
  · split
    · exact faultMoves_of_eq (by simp)
    · exact faultMoves_refl s
  · split
    · exact faultMoves_of_eq ((enterUp_changes f s).1 .faults (by simp))
    · exact faultMoves_refl s
  · exact linkLoss_faultMoves _ _ s

theorem grantCredits_faultMoves (r q : Byte) (s : State) : FaultMoves s (grantCredits r q s) := by
  unfold grantCredits
  dsimp only
  split
  · exact takeFault_faultMoves_of_eq _ (by simp)
  · exact faultMoves_of_eq (by simp)

theorem receive_faultMoves {k : HostKind} {p : List Byte} {rule : State → State} {s : State}
    (h : FaultMoves s (rule s)) : FaultMoves s (receive k p (whenUp rule) s) :=
  receive_ind (faultMoves_refl s) (faultMoves_of_eq (by simp)) fun _ => h

theorem sequenced_faultMoves {seq ackSeq : SeqNo} {deliver : State → State} {s : State}
    (h : ∀ t, FaultMoves t (deliver t)) : FaultMoves s (sequenced seq ackSeq deliver s) :=
  sequenced_ind (fun _ _ => faultMoves_of_eq rfl) fun u _ =>
    faultMoves_trans (faultMoves_of_eq (t := s.setUplink u) rfl) (h _)

theorem arrive_faultMoves (p : List Byte) (s : State) : FaultMoves s (arrive p s) := by
  have answered : ∀ f v, FaultMoves s (answer f v s) := fun f v =>
    faultMoves_of_eq ((answer_changes f v s).1 .faults (by simp))
  unfold arrive
  split
  · exact faultMoves_of_eq (by simp)
  · split
    · exact takeFault_faultMoves _ s
    · unfold decideArrival
      split
      · exact faultMoves_of_eq (by simp)
      · split
        · exact answered _ _
        · exact faultMoves_of_eq (by simp)

theorem handOver_faultMoves (r : Request) (tag : TagRef) (result : FetchResult) (s : State) :
    FaultMoves s (handOver r tag result s) := by
  unfold handOver
  split
  · exact faultMoves_of_eq (by simp)
  · exact faultMoves_of_eq (by simp)
  · unfold beginResult
    split
    · exact faultMoves_refl s
    · split
      · exact faultMoves_refl s
      · dsimp only
        split
        · exact faultMoves_of_eq (by simp)
        · next e _ _ _ _ _ _ =>
          exact faultMoves_trans (takeFault_faultMoves { kind := .exclRefused, slot := some e.slot } s)
            (faultMoves_of_eq (by simp))
        · exact faultMoves_of_eq (by simp)
        · exact faultMoves_of_eq (by simp)
        · exact faultMoves_refl s

theorem finishRequest_faultMoves (i : TagIx) (r : Request) (result : FetchResult) (s : State) :
    FaultMoves s (finishRequest i r result s) := by
  have reported : ∀ tag, FaultMoves s (requestFault r tag result (retireTag i s)) := by
    intro tag
    unfold requestFault
    split
    · exact faultMoves_of_eq (by simp)
    · split
      · exact faultMoves_of_eq (by simp)
      · exact takeFault_faultMoves_of_eq _ (by simp)
  exact faultMoves_trans (reported _) (handOver_faultMoves _ _ _ _)

theorem memData_faultMoves (p : List Byte) (s : State) : FaultMoves s (memData p s) := by
  unfold memData
  dsimp only
  split
  · split
    · split
      · exact finishRequest_faultMoves _ _ _ s
      · exact takeFault_faultMoves _ s
    · exact takeFault_faultMoves _ s
  · exact takeFault_faultMoves _ s

theorem windowAccess_faultMoves (slot : Slot) (a : CardAddr) (x : Transfer) (lock : Bool) (s : State) :
    FaultMoves s (windowAccess slot a x lock s).2 := by
  unfold windowAccess
  dsimp only
  split
  · exact faultMoves_of_eq (by simp)
  · split
    · exact faultMoves_of_eq (by simp)
    · unfold translateAndServe
      split
      · exact takeFault_faultMoves _ s
      · next t _ =>
        obtain ⟨_, _, _, _, faults, _⟩ := serve_keeps t x lock s
        exact faultMoves_of_eq faults

theorem expireEpisode_faultMoves (e : Episode) (s : State) : FaultMoves s (expireEpisode e s) := by
  have overrun := takeFault_faultMoves { kind := .exclOverrun, slot := some e.slot } s
  unfold expireEpisode
  dsimp only
  split
  · split
    · exact faultMoves_trans overrun (faultMoves_of_eq (by simp))
    · exact faultMoves_trans overrun (faultMoves_of_eq (by simp))
  · generalize (if e.heldRead.any HeldRead.isWaiting then e.heldRead else none) = held
    split
    · exact faultMoves_trans overrun (faultMoves_of_eq (by simp))
    · exact faultMoves_trans overrun (faultMoves_of_eq (by simp))
  · exact faultMoves_refl s

theorem serveFault_faultMoves (s : State) : FaultMoves s (serveFault (setClass .fault s)) := by
  unfold serveFault
  split
  · next r _ hq => exact faultMoves_of_move (.serve r (by simpa using hq) (by simp))
  · exact faultMoves_of_eq (by simp)

theorem serveReply_faults (s : State) : (serveReply (setClass .reply s)).faults = s.faults := by
  unfold serveReply
  (repeat' split) <;> simp [sendEvent, sendReport, eventTransmitted]

theorem servePosted_faults (s : State) : (servePosted (setClass .posted s)).faults = s.faults := by
  unfold servePosted
  split <;> simp

theorem serveRequest_faults (s : State) : (serveRequest (setClass .request s)).faults = s.faults := by
  unfold serveRequest
  split
  · dsimp only
    split <;> simp
  · simp

theorem transmitNext_faultMoves (s : State) : FaultMoves s (transmitNext s) := by
  refine transmitNext_ind (fun _ _ => faultMoves_of_eq rfl) fun c _ _ => ?_
  cases c with
  | fault => exact serveFault_faultMoves s
  | reply => exact faultMoves_of_eq (serveReply_faults s)
  | posted => exact faultMoves_of_eq (servePosted_faults s)
  | request => exact faultMoves_of_eq (serveRequest_faults s)

theorem startBridgeReset_faultMoves (s : State) : FaultMoves s (startBridgeReset s) := by
  unfold startBridgeReset
  refine faultMoves_trans (faultMoves_of_move (.empty ?_)) (takeFault_faultMoves _ _)
  rfl

theorem slotPresentation_faultMoves (slot : Slot) (address : BusAddress) (x : Transfer) (lock : Bool) (s : State) :
    FaultMoves s (after (.slotPresentation slot address x lock) s) := by
  simp only [after, exec, execSlotPresentation]
  split
  · have reported : FaultMoves s (if lock then s else lockReport slot s) := by
      split
      · exact faultMoves_refl s
      · exact faultMoves_of_eq (by simp)
    refine faultMoves_trans reported ?_
    cases claims address (if lock then s else lockReport slot s) with
    | some a =>
      exact faultMoves_trans (windowAccess_faultMoves slot a (cutTransfer (blockLength a x) x) lock _)
        (faultMoves_of_eq (by simp [claimedPresentation]))
    | none => exact faultMoves_of_eq rfl
  · exact faultMoves_refl s

/-- What each command does to the fault queue. -/
theorem after_faultMoves (i : Instr) (s : State) : FaultMoves s (after i s) := by
  by_cases touches : Block.faults ∈ touched i
  case neg => exact faultMoves_of_eq ((after_changes i s).1 .faults touches)
  case pos =>
    cases i with
    | powerOnReset => exact faultMoves_of_move (.empty rfl)
    | initReceived p =>
      simp only [after, exec, execInitReceived, receive]
      split
      · exact initFrame_faultMoves _ s
      · exact faultMoves_of_eq (by simp)
    | nakReceived p => exact receive_faultMoves (applyNak_faultMoves _ s)
    | creditReceived p => exact receive_faultMoves (grantCredits_faultMoves _ _ s)
    | linkResetReceived p => exact receive_faultMoves (linkLoss_faultMoves _ _ s)
    | commandReceived seq ackSeq p => exact receive_faultMoves (sequenced_faultMoves fun t => arrive_faultMoves p t)
    | memDataReceived seq ackSeq p => exact receive_faultMoves (sequenced_faultMoves fun t => memData_faultMoves p t)
    | lossOfSignal =>
      simp only [after, exec, execLossOfSignal]
      split
      · exact linkLoss_faultMoves _ _ s
      · exact faultMoves_of_eq (by simp)
      · exact faultMoves_refl s
    | replayDeadlineExpiry =>
      simp only [after, exec, execReplayDeadlineExpiry]
      split
      · exact faultMoves_trans (faultMoves_of_eq (by simp)) (replayDue_faultMoves _)
      · exact faultMoves_refl s
    | transmitterFree => exact transmitNext_faultMoves s
    | slotControlClearFaults =>
      refine slotCommand_ind (faultMoves_refl s) fun e rest slot _ => faultMoves_of_move ?_
      exact .same (by simp [clearFaults]) (by simp [clearFaults])
    | bridgeReset =>
      refine runHead_ind (faultMoves_refl s) fun e rest c f _ hf => ?_
      cases c <;> simp only [reduceCtorEq, Option.some.injEq] at hf
      subst hf
      exact faultMoves_trans (faultMoves_of_eq (by simp)) (startBridgeReset_faultMoves _)
    | slotPresentation slot address x lock => exact slotPresentation_faultMoves slot address x lock s
    | readTimeoutExpiry tag =>
      simp only [after, exec, execReadTimeoutExpiry]
      split
      · exact faultMoves_trans (faultMoves_of_eq (by simp)) (finishRequest_faultMoves _ _ _ _)
      · exact faultMoves_refl s
    | episodeLimitExpiry =>
      simp only [after, exec, execEpisodeLimitExpiry]
      split
      · split
        · exact faultMoves_trans (faultMoves_of_eq (by simp)) (expireEpisode_faultMoves _ _)
        · exact faultMoves_refl s
      · exact faultMoves_refl s
    | _ => exact absurd touches (by simp [touched, noneBlocks, masterBlocks])

theorem step_faultMoves {s t : State} (h : step s = .next t) : FaultMoves s t :=
  step_keeps (P := FaultMoves s) (fun _ _ h => h) (fun _ _ h => h)
    (fun i u hu => faultMoves_trans hu (after_faultMoves i u)) (faultMoves_refl s) h

/-- What every change of the fault queue keeps, a step keeps. -/
theorem faultMoves_keep {P : FaultUnit → Prop} (each : ∀ f g, FaultMove f g → P f → P g) {s t : State}
    (h : FaultMoves s t) (hs : P s.faults) : P t.faults := by
  unfold FaultMoves at h
  generalize t.faults = g at h
  induction h with
  | refl => exact hs
  | tail _ move ih => exact each _ _ move ih

theorem faultMove_bound {f g : FaultUnit} (move : FaultMove f g) (h : f.queue.length ≤ 16) : g.queue.length ≤ 16 := by
  cases move with
  | same queue _ => rwa [queue]
  | takeIn r room _ queue _ => rw [queue, List.length_append]; exact room
  | serve r queue _ =>
    rw [queue, List.length_cons] at h
    omega
  | empty queue => simp [queue]

theorem faultMove_numbered {f g : FaultUnit} (move : FaultMove f g) (h : CountsUpTo f.nextSeq (f.queue.map (·.seq))) :
    CountsUpTo g.nextSeq (g.queue.map (·.seq)) := by
  cases move with
  | same queue next => rwa [queue, next]
  | takeIn r _ seq queue next =>
    rw [queue, next, List.map_append, List.map_singleton, seq]
    exact countsUpTo_append h
  | serve r queue next =>
    rw [queue, List.map_cons] at h
    rw [next]
    exact countsUpTo_tail h
  | empty queue => simp [queue, CountsUpTo]

/-! ### The replay buffer -/

/-- One change of link state, numbering, replay buffer and credits. -/
inductive LinkMove : Uplink → Uplink → Prop
  /-- Nothing of it changes. -/
  | same {u v : Uplink} (h : SameLink u v) : LinkMove u v
  /-- The oldest frames are acknowledged (R176). -/
  | progress {u v : Uplink} (k : Nat) (state : v.linkState = u.linkState) (next : v.nextTx = u.nextTx)
      (replay : v.replay = u.replay.drop k) (requests : v.requestCredits = u.requestCredits)
      (posts : v.postedCredits = u.postedCredits) : LinkMove u v
  /-- A new frame is transmitted while UP (R175). -/
  | sent {u v : Uplink} (f : UpFrame) (up : u.linkState = .up) (state : v.linkState = .up) (room : u.replay.length < 16)
      (next : v.nextTx = u.nextTx + 1) (replay : v.replay = u.replay ++ [⟨u.nextTx, f⟩]) : LinkMove u v
  /-- Credits are granted while UP (R178). -/
  | granted {u v : Uplink} (up : u.linkState = .up) (state : v.linkState = .up) (next : v.nextTx = u.nextTx)
      (replay : v.replay = u.replay) : LinkMove u v
  /-- The link is lost, or the port reset (R171, R167). -/
  | lost {u v : Uplink} (state : v.linkState ≠ .up) (replay : v.replay = []) (requests : v.requestCredits = 0)
      (posts : v.postedCredits = 0) : LinkMove u v
  /-- The link goes from one state that is not UP to another (R168, R169). -/
  | trained {u v : Uplink} (old : u.linkState ≠ .up) (new : v.linkState ≠ .up) (next : v.nextTx = u.nextTx)
      (replay : v.replay = u.replay) (requests : v.requestCredits = u.requestCredits)
      (posts : v.postedCredits = u.postedCredits) : LinkMove u v
  /-- The link comes UP (R170). -/
  | entered {u v : Uplink} (old : u.linkState ≠ .up) (new : v.linkState = .up) (replay : v.replay = u.replay) : LinkMove u v

/-- A sequence of such changes, from the one state's Uplink Port to the other's. -/
def LinkMoves (s t : State) : Prop := Relation.ReflTransGen LinkMove s.uplink t.uplink

theorem linkMoves_refl (s : State) : LinkMoves s s := Relation.ReflTransGen.refl

theorem linkMoves_trans {s t u : State} (h : LinkMoves s t) (g : LinkMoves t u) : LinkMoves s u :=
  Relation.ReflTransGen.trans h g

theorem linkMoves_of_move {s t : State} (h : LinkMove s.uplink t.uplink) : LinkMoves s t := Relation.ReflTransGen.single h

theorem linkMoves_of_eq {s t : State} (h : t.uplink = s.uplink) : LinkMoves s t := by
  rw [LinkMoves, h]

theorem linkMoves_same {s t : State} (h : SameLink s.uplink t.uplink) : LinkMoves s t := linkMoves_of_move (.same h)

theorem returnCredit_sameLink (s : State) : SameLink s.uplink (returnCredit s).uplink := by
  unfold returnCredit
  split <;> exact ⟨rfl, rfl, rfl, rfl, rfl⟩

theorem returnCredits_linkMoves (n : Nat) (s : State) : LinkMoves s (returnCredits n s) := by
  induction n generalizing s with
  | zero => exact linkMoves_refl s
  | succ n ih => exact linkMoves_trans (linkMoves_same (returnCredit_sameLink s)) (ih _)

theorem beginHead_linkMoves (e : CommandEntry) (rest : List CommandEntry) (s : State) : LinkMoves s (beginHead e rest s) :=
  linkMoves_trans (linkMoves_of_eq (by simp)) (linkMoves_same (returnCredit_sameLink _))

theorem linkLoss_linkMoves (training reset : Bool) (s : State) : LinkMoves s (linkLoss training reset s) := by
  have uplink : (linkLoss training reset s).uplink = (lossUplink training reset s).uplink := by
    simp [linkLoss, lossUplink]
  refine linkMoves_of_move ?_
  rw [uplink]
  exact .lost (by cases training <;> simp [lossUplink]) rfl rfl rfl

theorem replayDue_linkMoves (s : State) : LinkMoves s (replayDue s) := by
  unfold replayDue
  split
  · exact linkMoves_same ⟨rfl, rfl, rfl, rfl, rfl⟩
  · exact linkLoss_linkMoves _ _ s

theorem replayIfAny_linkMoves (s : State) : LinkMoves s (replayIfAny s) := by
  unfold replayIfAny
  split
  · exact linkMoves_refl s
  · exact replayDue_linkMoves s

theorem progress_linkMoves (k : Nat) (s : State) : LinkMoves s (progress k s) :=
  linkMoves_of_move (.progress k rfl rfl rfl rfl rfl)

theorem applyAck_linkMoves (n : SeqNo) (s : State) : LinkMoves s (applyAck n s) := by
  unfold applyAck
  split
  · exact linkMoves_refl s
  · exact progress_linkMoves _ s

theorem applyNak_linkMoves (n : SeqNo) (s : State) : LinkMoves s (applyNak n s) := by
  unfold applyNak
  split
  · split
    · exact replayIfAny_linkMoves s
    · exact linkMoves_refl s
  · exact linkMoves_trans (progress_linkMoves _ s) (replayIfAny_linkMoves _)

theorem initFrame_linkMoves (f : InitFields) (s : State) : LinkMoves s (initFrame f s) := by
  unfold initFrame
  split
  · next down =>
    split
    · exact linkMoves_of_move (.trained (by simp [down]) (by simp [enterTraining]) rfl rfl rfl rfl)
    · exact linkMoves_refl s
  · next training =>
    split
    · have offered := fun u => (offerPending_frame u).1 .uplink (by simp)
      refine linkMoves_of_move (.entered (by simp [training]) ?_ ?_)
      · rw [enterUp, offered]
        rfl
      · rw [enterUp, offered]
        rfl
    · exact linkMoves_refl s
  · exact linkLoss_linkMoves _ _ s

theorem grantCredits_linkMoves (r q : Byte) {s : State} (up : linkUp s = true) : LinkMoves s (grantCredits r q s) := by
  have up' : s.uplink.linkState = .up := by simpa [linkUp] using up
  unfold grantCredits
  dsimp only
  split <;> exact linkMoves_of_move (.granted up' (by simp [up']) (by simp) (by simp))

theorem malformedFrame_linkMoves (s : State) : LinkMoves s (malformedFrame s) := by
  unfold malformedFrame gap
  split
  · split <;> exact linkMoves_same ⟨rfl, rfl, rfl, rfl, rfl⟩
  · exact linkMoves_refl s

theorem receive_linkMoves {k : HostKind} {p : List Byte} {rule : State → State} {s : State}
    (h : linkUp s = true → LinkMoves s (rule s)) : LinkMoves s (receive k p (whenUp rule) s) :=
  receive_ind (linkMoves_refl s) (malformedFrame_linkMoves s) h

theorem sequenced_linkMoves (seq ackSeq : SeqNo) {deliver : State → State} (h : ∀ t, LinkMoves t (deliver t)) (s : State) :
    LinkMoves s (sequenced seq ackSeq deliver s) := by
  have acked := applyAck_linkMoves ackSeq s
  unfold sequenced
  dsimp only
  split
  · exact linkMoves_trans acked
      (linkMoves_trans (t := acceptFrame (applyAck ackSeq s)) (linkMoves_same ⟨rfl, rfl, rfl, rfl, rfl⟩) (h _))
  · split
    · unfold gap
      split
      · exact acked
      · exact linkMoves_trans acked (linkMoves_same ⟨rfl, rfl, rfl, rfl, rfl⟩)
    · exact linkMoves_trans acked (linkMoves_same ⟨rfl, rfl, rfl, rfl, rfl⟩)

theorem answer_linkMoves (f : CommandFrame) (v : Verdict) (s : State) : LinkMoves s (answer f v s) := by
  have answered : ∀ c b, LinkMoves s (answerArrival f c b s) := fun c b =>
    linkMoves_trans (linkMoves_of_eq (by simp)) (linkMoves_same (returnCredit_sameLink _))
  cases v with
  | refused code => exact answered _ _
  | eventAck slot seq =>
    simp only [answer, runEventAck]
    split
    · exact linkMoves_trans (answered .ok []) (linkMoves_of_eq (by simp))
    · exact answered _ _
  | statusQuery x => exact answered _ _
  | ordered => exact linkMoves_refl s

theorem arrive_linkMoves (p : List Byte) (s : State) : LinkMoves s (arrive p s) := by
  unfold arrive
  split
  · exact linkMoves_same (returnCredit_sameLink s)
  · split
    · exact linkMoves_of_eq (by simp)
    · unfold decideArrival
      split
      · exact linkMoves_of_eq (by simp)
      · split
        · exact answer_linkMoves _ _ s
        · exact linkMoves_of_eq (by simp)

theorem takeHeld_linkMoves (before after : List CommandEntry) (e : CommandEntry) (s : State) :
    LinkMoves s (takeHeld before e after s) := by
  unfold takeHeld
  dsimp only
  split
  · exact linkMoves_of_eq (by simp)
  · refine linkMoves_trans (linkMoves_of_eq ?_) (answer_linkMoves _ _ _)
    rfl

/-- A new frame goes out on top of changes elsewhere (R175). -/
theorem transmit_linkMoves (f : UpFrame) {s t : State} (up : s.uplink.linkState = .up) (room : s.uplink.replay.length < 16)
    (state : t.uplink.linkState = s.uplink.linkState) (next : t.uplink.nextTx = s.uplink.nextTx)
    (replay : t.uplink.replay = s.uplink.replay) : LinkMoves s (transmit f t) := by
  refine linkMoves_of_move (.sent f up ?_ room ?_ ?_)
  · exact state.trans up
  · rw [← next]
    rfl
  · rw [← next, ← replay]
    rfl

theorem serveClass_linkMoves (c : TxClass) {s : State} (up : linkUp s = true) (room : s.uplink.replay.length < 16) :
    LinkMoves s (serveClass c s) := by
  have up' : s.uplink.linkState = .up := by simpa [linkUp] using up
  have chosen : ∀ c, LinkMoves s (setClass c s) := fun c => linkMoves_same ⟨rfl, rfl, rfl, rfl, rfl⟩
  cases c with
  | reply =>
    have report : ∀ x rest, LinkMoves s (sendReport x rest (setClass .reply s)) := fun x rest =>
      transmit_linkMoves _ up' room (by simp [setSource, setClass]) (by simp [setSource, setClass])
        (by simp [setSource, setClass])
    have event : ∀ x rest, LinkMoves s (sendEvent x rest (setClass .reply s)) := fun x rest =>
      transmit_linkMoves _ up' room (by simp [setSource, setClass, eventTransmitted])
        (by simp [setSource, setClass, eventTransmitted]) (by simp [setSource, setClass, eventTransmitted])
    simp only [serveClass, serveReply]
    split
    · split
      · exact event _ _
      · exact report _ _
    · exact report _ _
    · exact event _ _
    · exact chosen _
  | fault =>
    simp only [serveClass, serveFault]
    split
    · exact transmit_linkMoves _ up' room (by simp [setClass]) (by simp [setClass]) (by simp [setClass])
    · exact chosen _
  | posted =>
    simp only [serveClass, servePosted]
    split
    · exact transmit_linkMoves _ up' room (by simp [setClass]) (by simp [setClass]) (by simp [setClass])
    · exact chosen _
  | request =>
    simp only [serveClass, serveRequest]
    split
    · split
      · exact transmit_linkMoves _ up' room (by simp [setClass]) (by simp [setClass]) (by simp [setClass])
      · exact chosen _
    · exact chosen _

/-! ### Ordered commands -/

/-- What starts the command of an execution row (R158). -/
def orderedStart : Instr → Option (Command → Option (State → State))
  | .mapWrite => some fun c => match c with
    | .mapWrite first records => some (startUnlessEpisode (startMapWrite first records))
    | _ => none
  | .mapRead => some fun c => match c with
    | .mapRead first count => some (startMapRead first count)
    | _ => none
  | .mapInvalidate => some fun c => match c with
    | .mapInvalidate first count => some (startUnlessEpisode (startMapInvalidate first count))
    | _ => none
  | .windowSet => some fun c => match c with
    | .windowSet on base => some (startUnlessEpisode (startWindowSet on base))
    | _ => none
  | .bufferControlFlush => some fun c => match c with
    | .bufferControl .flush g r => some (fun t => awaitDrain (drainAndFree (applyBufferFields g r t)))
    | _ => none
  | .bufferControlEnable => some fun c => match c with
    | .bufferControl .enable g r => some (fun t => complete .ok [] (setBuffering true (applyBufferFields g r t)))
    | _ => none
  | .bufferControlDisable => some fun c => match c with
    | .bufferControl .disable g r =>
      some (fun t => awaitDrain (drainAndFree (setBuffering false (applyBufferFields g r t))))
    | _ => none
  | .setLimits => some fun c => match c with
    | .setLimits l => some (applyLimits l)
    | _ => none
  | .slotControlEnable => some (slotStart .enable enableSlot)
  | .slotControlDisable => some (slotStart .disable disableSlot)
  | .slotControlFence => some (slotStart .fence fence)
  | .slotControlUnfence => some (slotStart .unfence unfence)
  | .slotControlReset => some fun c => match c with
    | .slotControl slot .reset =>
      some (fun t =>
        if (slotAt slot t).enabled then complete .ok [] (beginSlotReset slot t) else complete .slotDisabled [] t)
    | _ => none
  | .slotControlMask => some (slotStart .mask maskSlot)
  | .slotControlUnmask => some (slotStart .unmask unmaskSlot)
  | .slotControlClearFaults => some (slotStart .clearFaults clearFaults)
  | .slotControlAutofenceOn => some (slotStart .autofenceOn (setAutofence true))
  | .slotControlAutofenceOff => some (slotStart .autofenceOff (setAutofence false))
  | .cardRead => some fun c => match c with
    | .cardRead f => some (startAccess false f [])
    | _ => none
  | .cardWrite => some fun c => match c with
    | .cardWrite f data => some (startAccess true f data)
    | _ => none
  | .lockOpen => some fun c => match c with
    | .lockOpen => some startLockOpen
    | _ => none
  | .lockClose => some fun c => match c with
    | .lockClose => some startLockClose
    | _ => none
  | .bridgeReset => some fun c => match c with
    | .bridgeReset => some startBridgeReset
    | _ => none
  | _ => none
where
  /-- One action of SLOT_CONTROL with its reply (R86). -/
  slotStart (action : SlotAction) (act : Slot → State → State) (c : Command) : Option (State → State) :=
    match c with
    | .slotControl slot a => if a = action then some (fun t => complete .ok [] (act slot t)) else none
    | _ => none

theorem after_ordered {i : Instr} {start : Command → Option (State → State)} (h : orderedStart i = some start) (s : State) :
    after i s = runHead start s := by
  cases i <;> cases h <;> rfl

/-- How much of the reply queue the Command Unit has taken or may still take for its executing command (R153). -/
def load (c : CommandUnit) : Nat := c.replies.length + (if c.executing.isSome then 1 else 0)

/-- The Uplink Port and the command queue are left alone, no command begins, and no reply comes but that of the executing
one (R156, R158). -/
def Settles (s t : State) : Prop :=
  t.uplink = s.uplink ∧ t.command.queue = s.command.queue ∧ t.command.resetting = s.command.resetting ∧
    load t.command ≤ load s.command ∧ (s.command.executing = none → t.command.executing = none)

theorem settles_of_eq {s t : State} (hu : t.uplink = s.uplink) (hc : t.command = s.command) : Settles s t := by
  simp [Settles, hu, hc]

theorem settles_trans {s t u : State} (h : Settles s t) (g : Settles t u) : Settles s u := by
  obtain ⟨h1, h2, h3, h4, h5⟩ := h
  obtain ⟨g1, g2, g3, g4, g5⟩ := g
  exact ⟨g1.trans h1, g2.trans h2, g3.trans h3, g4.trans h4, fun h => g5 (h5 h)⟩

theorem complete_settles (code : ResultCode) (body : List Byte) (s : State) : Settles s (complete code body s) := by
  unfold complete
  split
  · next e he => simp [Settles, load, he]
  · exact settles_of_eq rfl rfl

theorem setWait_settles (w : Wait) (s : State) : Settles s (setWait w s) := by
  unfold setWait
  split
  · next e he => simp [Settles, load, he]
  · exact settles_of_eq rfl rfl

theorem completed {s t : State} (code : ResultCode) (body : List Byte) (h : Settles s t) :
    Settles s (complete code body t) := settles_trans h (complete_settles code body t)

theorem awaitDrain_settles (s : State) : Settles s (awaitDrain s) := by
  unfold awaitDrain
  split
  · exact complete_settles _ _ s
  · exact setWait_settles _ s

theorem awaitBarrier_settles (s : State) : Settles s (awaitBarrier s) := by
  unfold awaitBarrier
  split
  · exact complete_settles _ _ s
  · exact setWait_settles _ s

theorem startMapWrite_settles (first : Nat) (records : List EntryFields) (s : State) :
    Settles s (startMapWrite first records s) :=
  settles_trans (settles_of_eq (by simp) (by simp)) (awaitBarrier_settles _)

theorem startMapInvalidate_settles (first count : Nat) (s : State) : Settles s (startMapInvalidate first count s) :=
  settles_trans (settles_of_eq (by simp) (by simp)) (awaitBarrier_settles _)

theorem startWindowSet_settles (on : Bool) (base : CardAddr) (s : State) : Settles s (startWindowSet on base s) :=
  settles_trans (settles_of_eq (by simp) (by simp)) (awaitDrain_settles _)

theorem mapStart_settles {c : Command} {f : State → State} (h : mapStart c = some f) (s : State) : Settles s (f s) := by
  cases c with
  | mapWrite first records => exact Option.some.inj h ▸ startMapWrite_settles _ _ s
  | mapInvalidate first count => exact Option.some.inj h ▸ startMapInvalidate_settles _ _ s
  | windowSet on base => exact Option.some.inj h ▸ startWindowSet_settles _ _ s
  | _ => simp [mapStart] at h

theorem startUnlessEpisode_settles {start : State → State} (h : ∀ s, Settles s (start s)) (s : State) :
    Settles s (startUnlessEpisode start s) := by
  unfold startUnlessEpisode
  split
  · exact h s
  · exact setWait_settles _ s

theorem applyLimits_settles (l : LimitFields) (s : State) : Settles s (applyLimits l s) := by
  unfold applyLimits
  dsimp only
  split
  · exact completed _ _ (settles_of_eq rfl rfl)
  · exact complete_settles _ _ s

theorem startAccess_settles (write : Bool) (f : AccessFields) (data : List Byte) (s : State) :
    Settles s (startAccess write f data s) := by
  unfold startAccess
  split
  · exact complete_settles _ _ s
  · dsimp only
    split <;> exact settles_trans (setWait_settles .bus s) (settles_of_eq rfl rfl)

theorem startLockOpen_settles (s : State) : Settles s (startLockOpen s) := by
  unfold startLockOpen
  split
  · exact settles_trans (t := s.setLocks _) (settles_of_eq rfl rfl) (setWait_settles _ _)
  · exact setWait_settles _ s
  · exact complete_settles _ _ s

theorem startLockClose_settles (s : State) : Settles s (startLockClose s) := by
  unfold startLockClose
  split
  · exact completed _ _ (settles_of_eq (by simp) (by simp))
  · exact complete_settles _ _ s

theorem enableSlot_settles (slot : Slot) (s : State) : Settles s (enableSlot slot s) := by
  unfold enableSlot
  split
  · exact settles_of_eq rfl rfl
  · exact settles_of_eq (by simp) (by simp)

theorem disableSlot_settles (slot : Slot) (s : State) : Settles s (disableSlot slot s) := by
  unfold disableSlot
  split
  · exact settles_of_eq (by simp) (by simp)
  · exact settles_of_eq rfl rfl

theorem fence_settles (slot : Slot) (s : State) : Settles s (fence slot s) := settles_of_eq (by simp) (by simp)

theorem unfence_settles (slot : Slot) (s : State) : Settles s (unfence slot s) := settles_of_eq rfl rfl

theorem beginSlotReset_settles (slot : Slot) (s : State) : Settles s (beginSlotReset slot s) :=
  settles_of_eq (by simp [beginSlotReset]) (by simp [beginSlotReset])

theorem maskSlot_settles (slot : Slot) (s : State) : Settles s (maskSlot slot s) :=
  settles_of_eq (by simp [maskSlot]) (by simp [maskSlot])

theorem unmaskSlot_settles (slot : Slot) (s : State) : Settles s (unmaskSlot slot s) :=
  settles_of_eq (by simp [unmaskSlot]) (by simp [unmaskSlot])

theorem clearFaults_settles (slot : Slot) (s : State) : Settles s (clearFaults slot s) := settles_of_eq rfl rfl

theorem setAutofence_settles (on : Bool) (slot : Slot) (s : State) : Settles s (setAutofence on slot s) :=
  settles_of_eq rfl rfl

theorem slotStart_settles {action : SlotAction} {act : Slot → State → State} {c : Command} {f : State → State}
    (ha : ∀ slot s, Settles s (act slot s)) (hf : orderedStart.slotStart action act c = some f) (s : State) :
    Settles s (f s) := by
  cases c with
  | slotControl slot a =>
    obtain ⟨_, hf⟩ := Option.ite_none_right_eq_some.mp hf
    exact Option.some.inj hf ▸ completed _ _ (ha slot s)
  | _ => cases hf

/-- Every ordered command but BRIDGE_RESET settles. -/
theorem ordered_settles {i : Instr} {start : Command → Option (State → State)} {c : Command} {f : State → State}
    (h : orderedStart i = some start) (other : i ≠ .bridgeReset) (hf : start c = some f) (s : State) : Settles s (f s) := by
  have drained : ∀ t, Settles s t → Settles s (awaitDrain (drainAndFree t)) := fun t ht =>
    settles_trans ht (settles_trans (settles_of_eq (by simp) (by simp)) (awaitDrain_settles _))
  cases i with
  | mapWrite =>
    cases h
    cases c <;> simp only [reduceCtorEq, Option.some.injEq] at hf
    exact hf ▸ startUnlessEpisode_settles (startMapWrite_settles _ _) s
  | mapRead =>
    cases h
    cases c <;> simp only [reduceCtorEq, Option.some.injEq] at hf
    exact hf ▸ complete_settles _ _ s
  | mapInvalidate =>
    cases h
    cases c <;> simp only [reduceCtorEq, Option.some.injEq] at hf
    exact hf ▸ startUnlessEpisode_settles (startMapInvalidate_settles _ _) s
  | windowSet =>
    cases h
    cases c <;> simp only [reduceCtorEq, Option.some.injEq] at hf
    exact hf ▸ startUnlessEpisode_settles (startWindowSet_settles _ _) s
  | bufferControlFlush =>
    cases h
    cases c <;> (try cases ‹BufferAction›) <;> simp only [reduceCtorEq, Option.some.injEq] at hf
    exact hf ▸ drained _ (settles_of_eq rfl rfl)
  | bufferControlEnable =>
    cases h
    cases c <;> (try cases ‹BufferAction›) <;> simp only [reduceCtorEq, Option.some.injEq] at hf
    exact hf ▸ completed _ _ (settles_of_eq rfl rfl)
  | bufferControlDisable =>
    cases h
    cases c <;> (try cases ‹BufferAction›) <;> simp only [reduceCtorEq, Option.some.injEq] at hf
    exact hf ▸ drained _ (settles_of_eq rfl rfl)
  | setLimits =>
    cases h
    cases c <;> simp only [reduceCtorEq, Option.some.injEq] at hf
    exact hf ▸ applyLimits_settles _ s
  | slotControlEnable => cases h; exact slotStart_settles enableSlot_settles hf s
  | slotControlDisable => cases h; exact slotStart_settles disableSlot_settles hf s
  | slotControlFence => cases h; exact slotStart_settles fence_settles hf s
  | slotControlUnfence => cases h; exact slotStart_settles unfence_settles hf s
  | slotControlReset =>
    cases h
    cases c with
    | slotControl slot a =>
      cases a <;> simp only [reduceCtorEq, Option.some.injEq] at hf
      subst hf
      dsimp only
      split
      · exact completed _ _ (beginSlotReset_settles slot s)
      · exact complete_settles _ _ s
    | _ => simp at hf
  | slotControlMask => cases h; exact slotStart_settles maskSlot_settles hf s
  | slotControlUnmask => cases h; exact slotStart_settles unmaskSlot_settles hf s
  | slotControlClearFaults => cases h; exact slotStart_settles clearFaults_settles hf s
  | slotControlAutofenceOn => cases h; exact slotStart_settles (setAutofence_settles true) hf s
  | slotControlAutofenceOff => cases h; exact slotStart_settles (setAutofence_settles false) hf s
  | cardRead =>
    cases h
    cases c <;> simp only [reduceCtorEq, Option.some.injEq] at hf
    exact hf ▸ startAccess_settles _ _ _ s
  | cardWrite =>
    cases h
    cases c <;> simp only [reduceCtorEq, Option.some.injEq] at hf
    exact hf ▸ startAccess_settles _ _ _ s
  | lockOpen =>
    cases h
    cases c <;> simp only [reduceCtorEq, Option.some.injEq] at hf
    exact hf ▸ startLockOpen_settles s
  | lockClose =>
    cases h
    cases c <;> simp only [reduceCtorEq, Option.some.injEq] at hf
    exact hf ▸ startLockClose_settles s
  | bridgeReset => exact absurd rfl other
  | _ => cases h

theorem transmitNext_linkMoves (s : State) : LinkMoves s (transmitNext s) :=
  transmitNext_ind (fun _ same => linkMoves_same same) fun c up room => serveClass_linkMoves c up room

theorem runHead_linkMoves {start : Command → Option (State → State)} {s : State}
    (h : ∀ c f, start c = some f → ∀ t, LinkMoves t (f t)) : LinkMoves s (runHead start s) :=
  runHead_ind (linkMoves_refl s) fun e rest c f _ hf => linkMoves_trans (beginHead_linkMoves e rest s) (h c f hf _)

theorem startBridgeReset_linkMoves (s : State) : LinkMoves s (startBridgeReset s) :=
  linkMoves_trans (t := (complete .ok [] s).setCommand { (complete .ok [] s).command with queue := [], resetting := true })
    (linkMoves_of_eq (by simp)) (linkMoves_trans (returnCredits_linkMoves s.command.queue.length _)
      (linkMoves_of_eq (by simp [startBridgeReset, resetBlocks])))

theorem ordered_linkMoves {i : Instr} {start : Command → Option (State → State)} (h : orderedStart i = some start)
    (s : State) : LinkMoves s (after i s) := by
  rw [after_ordered h]
  refine runHead_linkMoves fun c f hf t => ?_
  by_cases reset : i = .bridgeReset
  · subst reset
    cases h
    cases c <;> simp only [reduceCtorEq, Option.some.injEq] at hf
    exact hf ▸ startBridgeReset_linkMoves t
  · exact linkMoves_of_eq (ordered_settles h reset hf t).1

/-- What each command does to link state, numbering, replay buffer and credits. -/
theorem after_linkMoves (i : Instr) (s : State) : LinkMoves s (after i s) := by
  cases ho : orderedStart i with
  | some start => exact ordered_linkMoves ho s
  | none =>
    by_cases touches : Block.uplink ∈ touched i
    case neg => exact linkMoves_of_eq ((after_changes i s).1 .uplink touches)
    cases i with
    | powerOnReset => exact linkMoves_of_move (.lost (by simp [after, exec, execPowerOnReset, powerOn, Uplink.reset]) rfl rfl rfl)
    | initReceived p =>
      simp only [after, exec, execInitReceived, receive]
      split
      · exact initFrame_linkMoves _ s
      · exact malformedFrame_linkMoves s
    | ackReceived p => exact receive_linkMoves fun _ => applyAck_linkMoves _ s
    | nakReceived p => exact receive_linkMoves fun _ => applyNak_linkMoves _ s
    | creditReceived p => exact receive_linkMoves fun up => grantCredits_linkMoves _ _ up
    | linkResetReceived p => exact receive_linkMoves fun _ => linkLoss_linkMoves _ _ s
    | commandReceived seq ackSeq p => exact receive_linkMoves fun _ => sequenced_linkMoves _ _ (arrive_linkMoves p) s
    | memDataReceived seq ackSeq p =>
      refine receive_linkMoves fun _ => sequenced_linkMoves _ _ (fun t => linkMoves_of_eq ?_) s
      exact (memData_changes p t).1 .uplink (by simp [noneBlocks])
    | badFrameReceived bytes =>
      simp only [after, exec, execBadFrameReceived]
      split
      · exact linkMoves_refl s
      · refine linkMoves_trans (linkMoves_same ?_) (malformedFrame_linkMoves _)
        exact ⟨rfl, rfl, rfl, rfl, rfl⟩
      · exact malformedFrame_linkMoves s
    | lossOfSignal =>
      simp only [after, exec, execLossOfSignal]
      split
      · exact linkLoss_linkMoves _ _ s
      · next training => exact linkMoves_of_move (.trained (by simp [training]) (by simp [enterDown]) rfl rfl rfl rfl)
      · exact linkMoves_refl s
    | initIntervalExpiry =>
      simp only [after, exec, execInitIntervalExpiry]
      split
      · split
        · exact linkMoves_refl s
        · exact linkMoves_same ⟨rfl, rfl, rfl, rfl, rfl⟩
      · exact linkMoves_refl s
    | trainingDeadlineExpiry =>
      simp only [after, exec, execTrainingDeadlineExpiry]
      split
      · next training _ => exact linkMoves_of_move (.trained (by simp [training]) (by simp [enterDown]) rfl rfl rfl rfl)
      · exact linkMoves_refl s
    | ackDeadlineExpiry =>
      simp only [after, exec, execAckDeadlineExpiry]
      split
      · exact linkMoves_same ⟨rfl, rfl, rfl, rfl, rfl⟩
      · exact linkMoves_refl s
    | replayDeadlineExpiry =>
      simp only [after, exec, execReplayDeadlineExpiry]
      split
      · exact linkMoves_trans (linkMoves_of_eq (by simp)) (replayDue_linkMoves _)
      · exact linkMoves_refl s
    | transmitterFree => exact transmitNext_linkMoves s
    | heldEntryTaken =>
      simp only [after, exec, execHeldEntryTaken]
      split
      · split
        · exact takeHeld_linkMoves _ _ _ s
        · exact linkMoves_refl s
      · exact linkMoves_refl s
    | _ => simp [touched, noneBlocks, masterBlocks, orderedStart] at touches ho

theorem step_linkMoves {s t : State} (h : step s = .next t) : LinkMoves s t :=
  step_keeps (P := LinkMoves s) (fun _ _ h => h) (fun _ _ h => h)
    (fun i u hu => linkMoves_trans hu (after_linkMoves i u)) (linkMoves_refl s) h

/-- What every such change keeps, a step keeps. -/
theorem linkMoves_keep {P : Uplink → Prop} (each : ∀ u v, LinkMove u v → P u → P v) {s t : State} (h : LinkMoves s t)
    (hs : P s.uplink) : P t.uplink := by
  unfold LinkMoves at h
  generalize t.uplink = v at h
  induction h with
  | refl => exact hs
  | tail _ move ih => exact each _ _ move ih

theorem linkMove_bound {u v : Uplink} (move : LinkMove u v) (h : u.replay.length ≤ 16) : v.replay.length ≤ 16 := by
  cases move with
  | same same =>
    obtain ⟨_, _, replay, _⟩ := same
    rwa [replay]
  | progress k _ _ replay _ _ =>
    rw [replay, List.length_drop]
    omega
  | sent f _ _ room _ replay =>
    rw [replay, List.length_append]
    exact room
  | granted _ _ _ replay => rwa [replay]
  | lost _ replay _ _ => simp [replay]
  | trained _ _ _ replay _ _ => rwa [replay]
  | entered _ _ replay => rwa [replay]

/-- The Seq values of the replay buffer are consecutive, and it is empty while the link is not UP. -/
def ReplayKept (u : Uplink) : Prop :=
  CountsUpTo u.nextTx (u.replay.map (·.seq)) ∧ (u.linkState ≠ .up → u.replay = [])

theorem linkMove_replayKept {u v : Uplink} (move : LinkMove u v) (h : ReplayKept u) : ReplayKept v := by
  obtain ⟨counts, empty⟩ := h
  cases move with
  | same same =>
    obtain ⟨state, next, replay, _⟩ := same
    rw [ReplayKept, state, next, replay]
    exact ⟨counts, empty⟩
  | progress k state next replay _ _ =>
    rw [ReplayKept, state, next, replay, List.map_drop]
    exact ⟨countsUpTo_drop k counts, fun down => by simp [empty down]⟩
  | sent f _ state _ next replay =>
    refine ⟨?_, fun down => absurd state down⟩
    rw [next, replay, List.map_append]
    exact countsUpTo_append counts
  | granted _ state next replay =>
    rw [ReplayKept, next, replay]
    exact ⟨counts, fun down => absurd state down⟩
  | lost _ replay _ _ => exact ⟨by simp [replay, CountsUpTo], fun _ => replay⟩
  | trained old new next replay _ _ =>
    rw [ReplayKept, next, replay]
    exact ⟨counts, fun _ => empty old⟩
  | entered old new replay =>
    rw [ReplayKept, replay, empty old]
    exact ⟨by simp [CountsUpTo], fun _ => rfl⟩

end Sys2Proof.Machine

namespace Sys2Proof

open Sys2Proof.Machine

/-- Settles O5: an entry joins a queue with the next number and leaves it from the front, or all leave together. -/
theorem stepKeepsNumbersConsecutive : Obligations.StepKeepsNumbersConsecutive :=
  ⟨fun _ _ hs h => moves_keep (fun _ _ => move_postedNumbered) (step_moves h) hs,
    fun _ _ hs h => faultMoves_keep (P := fun f => CountsUpTo f.nextSeq (f.queue.map FaultRecord.seq))
      (fun _ _ => faultMove_numbered) (step_faultMoves h) hs,
    fun _ _ hs h => linkMoves_keep (P := ReplayKept) (fun _ _ => linkMove_replayKept) (step_linkMoves h) hs⟩

end Sys2Proof
end

section
/-! The bounds that every command keeps: the command queue and the room of the reply queue, the claims of cards, and the
settings in their ranges. -/

namespace Sys2Proof.Machine

/-! ### Commands that settle -/

theorem settles_refl (s : State) : Settles s s := settles_of_eq rfl rfl

theorem startWaiting_settles (s : State) : Settles s (startWaiting s) := by
  unfold startWaiting
  split
  · split
    · split
      · next start hstart =>
        obtain ⟨c, _, hm⟩ := Option.bind_eq_some_iff.mp hstart
        exact settles_trans (setWait_settles .none s) (mapStart_settles hm _)
      · exact settles_refl s
    · exact settles_refl s
  · exact settles_refl s

theorem toNone_settles (s : State) : Settles s (toNone s) :=
  settles_trans (t := setEpisode none s) (settles_of_eq rfl rfl) (startWaiting_settles _)

theorem joinEnd_settles (e : Episode) (s : State) : Settles s (joinEnd e s) :=
  settles_trans (settles_of_eq (by simp) (by simp)) (toNone_settles _)

theorem postEnd_settles (e : Episode) (s : State) : Settles s (postEnd e s) := by
  unfold postEnd
  split
  · exact joinEnd_settles e s
  · exact settles_of_eq rfl rfl

theorem lockReport_settles (slot : Slot) (s : State) : Settles s (lockReport slot s) := by
  unfold lockReport
  split
  · exact settles_refl s
  · split
    · exact settles_refl s
    · split
      · split
        · exact settles_of_eq rfl rfl
        · exact settles_trans (settles_of_eq (by simp) (by simp)) (toNone_settles _)
      · split
        · exact settles_refl s
        · exact postEnd_settles _ s
      · exact settles_refl s

theorem takeFault_settles (r : FaultReport) (s : State) : Settles s (takeFault r s) := settles_of_eq (by simp) (by simp)

theorem handOver_settles (r : Request) (tag : TagRef) (result : FetchResult) (s : State) :
    Settles s (handOver r tag result s) := by
  unfold handOver
  split
  · exact settles_of_eq (by simp) (by simp)
  · unfold heldResult
    split
    · exact settles_refl s
    · split
      · exact settles_refl s
      · split
        · exact settles_refl s
        · split
          · dsimp only
            split
            · exact settles_of_eq rfl rfl
            · exact postEnd_settles _ s
          · exact settles_of_eq rfl rfl
  · unfold beginResult
    split
    · exact settles_refl s
    · split
      · exact settles_refl s
      · dsimp only
        split
        · exact settles_of_eq rfl rfl
        · exact settles_trans (settles_of_eq (by simp) (by simp)) (toNone_settles _)
        · exact postEnd_settles _ s
        · exact toNone_settles s
        · exact settles_refl s

theorem finishRequest_settles (i : TagIx) (r : Request) {result : FetchResult} (s : State) (h : result.harmless) :
    Settles s (finishRequest i r result s) := by
  obtain ⟨kept, _⟩ := requestFault_changes r ⟨i, (s.tracker.tags.get i).generation⟩ (retireTag i s) h
  refine settles_trans (settles_of_eq ?_ ?_) (handOver_settles _ _ _ _)
  · exact (kept .uplink (by simp)).trans (by simp)
  · exact (kept .command (by simp)).trans (by simp)

theorem memData_settles (p : List Byte) (s : State) : Settles s (memData p s) := by
  unfold memData
  dsimp only
  split
  · split
    · split
      · exact finishRequest_settles _ _ s (completionResult_harmless _ _ _)
      · exact takeFault_settles _ s
    · exact takeFault_settles _ s
  · exact takeFault_settles _ s

theorem expireEpisode_settles (e : Episode) (s : State) : Settles s (expireEpisode e s) := by
  have overrun := takeFault_settles { kind := .exclOverrun, slot := some e.slot } s
  unfold expireEpisode
  dsimp only
  split
  · split
    · exact settles_trans overrun (settles_of_eq rfl rfl)
    · exact settles_trans overrun (settles_trans (settles_of_eq (by simp) (by simp)) (toNone_settles _))
  · generalize (if e.heldRead.any HeldRead.isWaiting then e.heldRead else none) = held
    split
    · exact settles_trans overrun (settles_of_eq rfl rfl)
    · exact settles_trans overrun (postEnd_settles _ _)
  · exact settles_refl s

theorem windowAccess_settles (slot : Slot) (a : CardAddr) (x : Transfer) (lock : Bool) (s : State) :
    Settles s (windowAccess slot a x lock s).2 := by
  unfold windowAccess
  dsimp only
  split
  · exact settles_of_eq rfl rfl
  · split
    · exact settles_of_eq rfl rfl
    · unfold translateAndServe
      split
      · exact takeFault_settles _ s
      · next t _ =>
        obtain ⟨_, _, _, _, _, command, uplink, _⟩ := serve_keeps t x lock s
        exact settles_of_eq uplink command

theorem slotPresentation_settles (slot : Slot) (address : BusAddress) (x : Transfer) (lock : Bool) (s : State) :
    Settles s (after (.slotPresentation slot address x lock) s) := by
  simp only [after, exec, execSlotPresentation]
  split
  · have reported : Settles s (if lock then s else lockReport slot s) := by
      split
      · exact settles_refl s
      · exact lockReport_settles slot s
    refine settles_trans reported ?_
    cases claims address (if lock then s else lockReport slot s) with
    | some a =>
      exact settles_trans (windowAccess_settles slot a (cutTransfer (blockLength a x) x) lock _)
        (settles_of_eq (by simp [claimedPresentation]) (by simp [claimedPresentation]))
    | none => exact settles_of_eq rfl rfl
  · exact settles_refl s

theorem failAccess_settles (a : Downstream) (code : ResultCode) (s : State) : Settles s (failAccess a code s) := by
  unfold failAccess
  dsimp only
  split
  · exact settles_of_eq (by simp) (by simp)
  · refine completed _ _ ?_
    split <;> exact settles_of_eq (by simp) (by simp)

theorem followAnswer_settles (a : Downstream) (r : Response) (data : List Byte) (s : State) :
    Settles s (followAnswer a r data s) := by
  cases r with
  | complete =>
    simp only [followAnswer]
    split
    · unfold finishWrite
      dsimp only
      split
      · exact settles_of_eq (by simp) (by simp)
      · exact completed _ _ (settles_of_eq (by simp) (by simp))
    · unfold finishRead
      split
      · exact settles_of_eq (by simp) (by simp)
      · dsimp only
        split
        · exact completed _ _ (settles_of_eq (by simp) (by simp))
        · exact settles_trans (settles_of_eq (by simp) (by simp)) (setWait_settles _ _)
  | partly n => exact settles_of_eq rfl rfl
  | retry =>
    simp only [followAnswer, retryAccess]
    split
    · exact settles_of_eq (by simp) (by simp)
    · split
      · exact failAccess_settles _ _ s
      · split
        · exact settles_of_eq rfl rfl
        · exact settles_of_eq (by simp) (by simp)
  | abort => exact failAccess_settles a _ s

theorem finishDrain_settles (s : State) : Settles s (finishDrain s) := by
  unfold finishDrain
  split
  · split
    · exact completed _ _ (settles_of_eq rfl rfl)
    · exact complete_settles _ _ s
  · exact complete_settles _ _ s

theorem grant_settles (requests : BitVec 6) (s : State) : Settles s (grant requests s) := by
  have access : Settles s (grantAccess s) := by
    unfold grantAccess
    split
    · exact settles_of_eq rfl rfl
    · exact settles_refl s
  have slot : ∀ x, Settles s (grantSlot x s) := fun x => settles_of_eq rfl rfl
  unfold grant
  split
  · split
    · exact access
    · exact settles_refl s
  · split
    · split
      · exact slot _
      · exact settles_refl s
    · unfold grantFree
      split
      · exact completed _ _ (settles_of_eq rfl rfl)
      · split
        · exact access
        · split
          · exact slot _
          · exact settles_refl s

/-- The commands outside the Uplink Port that queue no notice: the Command Unit at most completes its command by them. -/
def settling : Instr → Bool
  | .slotResetEnd _ | .lockLimitExpiry | .reinitialisationComplete => false
  | i => decide (Block.uplink ∉ touched i)

theorem after_settles {i : Instr} (h : settling i = true) (s : State) : Settles s (after i s) := by
  have quiet : Block.uplink ∉ touched i := by
    cases i <;> simp_all [settling, touched, noneBlocks, masterBlocks, lossBlocks, sendBlocks]
  by_cases touches : Block.command ∈ touched i
  case neg => exact settles_of_eq ((after_changes i s).1 .uplink quiet) ((after_changes i s).1 .command touches)
  have passed : ∀ d, Settles s (passTo d s) := fun d => settles_of_eq (by simp) (by simp)
  cases i with
  | slotPresentation slot address x lock => exact slotPresentation_settles slot address x lock s
  | lockRelease slot => exact lockReport_settles slot s
  | busGrant requests =>
    simp only [after, exec, execBusGrant]
    split
    · exact grant_settles requests s
    · exact settles_refl s
  | presentationAnswer r data =>
    simp only [after, exec, execPresentationAnswer]
    split
    · split
      · exact followAnswer_settles _ _ _ s
      · exact settles_refl s
    · exact settles_refl s
  | noClaim =>
    simp only [after, exec, execNoClaim]
    split
    · split
      · exact settles_trans (passed _) (failAccess_settles _ _ _)
      · exact settles_refl s
    · exact settles_refl s
  | readTimeoutExpiry tag =>
    simp only [after, exec, execReadTimeoutExpiry]
    split
    · exact settles_trans (passed _) (finishRequest_settles _ _ _ rfl)
    · exact settles_refl s
  | episodeLimitExpiry =>
    simp only [after, exec, execEpisodeLimitExpiry]
    split
    · split
      · exact settles_trans (passed _) (expireEpisode_settles _ _)
      · exact settles_refl s
    · exact settles_refl s
  | globalDrainComplete =>
    simp only [after, exec, execGlobalDrainComplete]
    split
    · exact settles_trans (t := s.setStaging _) (settles_of_eq rfl rfl) (finishDrain_settles _)
    · exact settles_refl s
  | mapBarrierComplete =>
    simp only [after, exec, execMapBarrierComplete]
    split
    · exact completed _ _ (settles_of_eq rfl rfl)
    · exact settles_refl s
  | exclEndPlaced =>
    simp only [after, exec, execExclEndPlaced]
    split
    · split
      · exact joinEnd_settles _ s
      · exact settles_refl s
    · exact settles_refl s
  | slotResetEnd | lockLimitExpiry | reinitialisationComplete => cases h
  | _ => simp [touched, lossBlocks, sendBlocks] at quiet touches

/-! ### The command queue -/

theorem oldestHeld_eq {q : List CommandEntry} {before rest : List CommandEntry} {e : CommandEntry}
    (h : oldestHeld q = some (before, e, rest)) : q = before ++ e :: rest := by
  induction q generalizing before with
  | nil => cases h
  | cons x xs ih =>
    unfold oldestHeld at h
    split at h
    · cases h
      rfl
    · split at h
      · next hq =>
        cases h
        rw [ih hq]
        rfl
      · cases h

theorem answer_queue (f : CommandFrame) (v : Verdict) (s : State) : (answer f v s).command.queue = s.command.queue := by
  have credit : ∀ t : State, (returnCredit t).command = t.command := fun t => by simp
  have answered : ∀ c b, (answerArrival f c b s).command.queue = s.command.queue := fun c b => by
    rw [answerArrival, credit]
    rfl
  cases v with
  | eventAck slot seq =>
    simp only [answer, runEventAck]
    split
    · simpa using answered .ok []
    · exact answered _ _
  | ordered => rfl
  | _ => exact answered _ _

/-- The command queue is within its bound (R152). -/
def QueueBounded (s : State) : Prop := s.command.queue.length ≤ 8

theorem queueBounded_of_eq {s t : State} (h : QueueBounded s) (e : t.command.queue = s.command.queue) : QueueBounded t := by
  rw [QueueBounded, e]
  exact h

theorem arrive_queue (p : List Byte) {s : State} (h : QueueBounded s) : QueueBounded (arrive p s) := by
  unfold arrive
  split
  · exact queueBounded_of_eq h (by simp)
  · split
    · exact queueBounded_of_eq h (by simp)
    · next full =>
      have room : s.command.queue.length < 8 := Nat.lt_of_not_le full
      have queued : ∀ f held, QueueBounded (enqueue f held s) := fun f held => by
        simpa [QueueBounded, enqueue] using room
      unfold decideArrival
      split
      · exact queued _ _
      · split
        · exact queueBounded_of_eq h (answer_queue _ _ s)
        · exact queued _ _

theorem linkLoss_queue (training reset : Bool) (s : State) : (linkLoss training reset s).command.queue = [] := by
  simp [linkLoss, lossCommand]

/-- A replay that is due leaves the command queue alone, or loses the link (R177). -/
theorem replayDue_ind {P : State → Prop} {s : State} (replay : ∀ u, u.linkState = s.uplink.linkState → P (s.setUplink u))
    (lost : P (linkLoss false true s)) : P (replayDue s) := by
  unfold replayDue
  split
  · exact replay _ rfl
  · exact lost

theorem applyNak_ind {P : State → Prop} {s : State} (n : SeqNo)
    (replay : ∀ u, u.linkState = s.uplink.linkState → P (s.setUplink u))
    (lost : ∀ u, P (linkLoss false true (s.setUplink u))) : P (applyNak n s) := by
  have same : P s := replay s.uplink rfl
  have due : ∀ u, u.linkState = s.uplink.linkState → P (replayIfAny (s.setUplink u)) := by
    intro u hu
    unfold replayIfAny
    split
    · exact replay u hu
    · exact replayDue_ind (fun v hv => replay v (hv.trans hu)) (lost u)
  unfold applyNak
  split
  · split
    · exact due s.uplink rfl
    · exact same
  · exact due _ rfl

theorem initFrame_ind {P : State → Prop} {s : State} (f : InitFields) (same : P s)
    (trained : s.uplink.linkState = .down → P (enterTraining s))
    (entered : s.uplink.linkState = .training → P (enterUp f s)) (lost : s.uplink.linkState = .up → P (linkLoss true false s)) :
    P (initFrame f s) := by
  unfold initFrame
  split
  · next state =>
    split
    · exact trained state
    · exact same
  · next state =>
    split
    · exact entered state
    · exact same
  · next state => exact lost state

theorem linkLoss_queueBounded (training reset : Bool) (s : State) : QueueBounded (linkLoss training reset s) := by
  simp [QueueBounded, linkLoss_queue]

theorem serveClass_queue (c : TxClass) (s : State) : (serveClass c s).command.queue = s.command.queue := by
  cases c with
  | reply =>
    simp only [serveClass, serveReply]
    (repeat' split) <;> simp [sendReport, sendEvent, setSource, setClass, eventTransmitted]
  | fault =>
    simp only [serveClass, serveFault]
    split <;> simp [setClass]
  | posted =>
    simp only [serveClass, servePosted]
    split <;> simp [setClass]
  | request =>
    simp only [serveClass, serveRequest]
    split
    · split <;> simp [setClass]
    · simp [setClass]

theorem returnCredits_command (n : Nat) (s : State) : (returnCredits n s).command = s.command := by
  induction n generalizing s with
  | zero => rfl
  | succ n ih => simpa [returnCredits] using ih (returnCredit s)

/-- The Command Unit after the start of a bridge reset: the reply is queued, the queue emptied, RESETTING begun (R164). -/
theorem startBridgeReset_command (s : State) :
    (startBridgeReset s).command = { (complete .ok [] s).command with queue := [], resetting := true } := by
  simp [startBridgeReset, resetBlocks, returnCredits_command]

theorem ordered_queueBounded {i : Instr} {start : Command → Option (State → State)} (ho : orderedStart i = some start)
    {s : State} (h : QueueBounded s) : QueueBounded (after i s) := by
  rw [after_ordered ho]
  refine runHead_ind h fun e rest c f hh hf => ?_
  obtain ⟨queue, _⟩ := hh
  have begun : QueueBounded (beginHead e rest s) := by
    rw [QueueBounded, queue, List.length_cons] at h
    simpa [QueueBounded, beginHead_spec] using Nat.le_of_succ_le h
  by_cases reset : i = .bridgeReset
  · subst reset
    cases ho
    cases c <;> simp only [reduceCtorEq, Option.some.injEq] at hf
    subst hf
    simp [QueueBounded, startBridgeReset_command]
  · obtain ⟨_, kept, _⟩ := ordered_settles ho reset hf (beginHead e rest s)
    exact queueBounded_of_eq begun kept

theorem takeHeld_queueBounded {before rest : List CommandEntry} {e : CommandEntry} {s : State} (h : QueueBounded s)
    (hq : oldestHeld s.command.queue = some (before, e, rest)) : QueueBounded (takeHeld before e rest s) := by
  rw [QueueBounded, oldestHeld_eq hq] at h
  unfold takeHeld
  dsimp only
  split
  · simpa [QueueBounded] using h
  · rw [QueueBounded, answer_queue]
    simp only [State.setCommand_command, List.length_append, List.length_cons] at h ⊢
    omega

/-- Every command keeps the command queue within its bound. -/
theorem after_queueBounded (i : Instr) (s : State) (h : QueueBounded s) : QueueBounded (after i s) := by
  by_cases touches : Block.command ∈ touched i
  case neg => exact queueBounded_of_eq h (by rw [(after_changes i s).1 .command touches])
  have same : ∀ {t : State}, t.command.queue = s.command.queue → QueueBounded t := queueBounded_of_eq h
  cases ho : orderedStart i with
  | some start => exact ordered_queueBounded ho h
  | none =>
    by_cases hs : settling i = true
    · obtain ⟨_, kept, _⟩ := after_settles hs s
      exact same kept
    cases i with
    | powerOnReset => exact Nat.zero_le _
    | initReceived p =>
      simp only [after, exec, execInitReceived, receive]
      split
      · exact initFrame_ind _ h (fun _ => same rfl)
          (fun _ => same (by rw [(enterUp_changes _ s).1 .command (by simp)])) fun _ => linkLoss_queueBounded _ _ s
      · exact same (by simp)
    | nakReceived p =>
      exact receive_ind h (same (by simp)) fun _ => applyNak_ind _ (fun _ _ => same rfl) fun _ => linkLoss_queueBounded _ _ _
    | linkResetReceived p => exact receive_ind h (same (by simp)) fun _ => linkLoss_queueBounded _ _ s
    | commandReceived seq ackSeq p =>
      exact receive_ind h (same (by simp)) fun _ => sequenced_ind (fun _ _ => h) fun u _ =>
        arrive_queue p (s := s.setUplink u) h
    | memDataReceived seq ackSeq p =>
      refine receive_ind h (same (by simp)) fun _ => sequenced_ind (fun _ _ => h) fun u _ => ?_
      obtain ⟨_, kept, _⟩ := memData_settles p (s.setUplink u)
      exact same kept
    | lossOfSignal =>
      simp only [after, exec, execLossOfSignal]
      split
      · exact linkLoss_queueBounded _ _ s
      · exact same rfl
      · exact h
    | replayDeadlineExpiry =>
      simp only [after, exec, execReplayDeadlineExpiry]
      split
      · exact replayDue_ind (fun _ _ => h) (linkLoss_queueBounded _ _ _)
      · exact h
    | transmitterFree => exact transmitNext_ind (fun _ _ => h) fun c _ _ => same (serveClass_queue c s)
    | heldEntryTaken =>
      simp only [after, exec, execHeldEntryTaken]
      split
      · next hq =>
        split
        · exact takeHeld_queueBounded h hq
        · exact h
      · exact h
    | slotResetEnd slot =>
      simp only [after, exec, execSlotResetEnd, endSlotReset]
      split
      · split <;> exact same (by simp [queueReport])
      · exact h
    | lockLimitExpiry =>
      simp only [after, exec, execLockLimitExpiry, expireLock]
      split
      · split <;> exact same (by simp [queueReport])
      · exact h
    | reinitialisationComplete =>
      simp only [after, exec, execReinitialisationComplete]
      split
      · split <;> exact h
      · exact h
    | _ => simp [settling, touched, noneBlocks, masterBlocks, orderedStart] at hs touches ho

/-! ### Slot records and the claims of cards -/

/-- Enabled and InReset of every slot are the same in both states. -/
def RecordsKept (s t : State) : Prop :=
  ∀ x, (t.bus.slots.get x).enabled = (s.bus.slots.get x).enabled ∧
    (t.bus.slots.get x).resetDeadline = (s.bus.slots.get x).resetDeadline

theorem recordsKept_of_eq {s t : State} (h : t.bus.slots = s.bus.slots) : RecordsKept s t := fun x => by simp [h]

theorem recordsKept_trans {s t u : State} (h : RecordsKept s t) (g : RecordsKept t u) : RecordsKept s u := fun x =>
  ⟨(g x).1.trans (h x).1, (g x).2.trans (h x).2⟩

theorem setSlot_recordsKept {slot : Slot} {r : SlotRecord} {s : State} (he : r.enabled = (s.bus.slots.get slot).enabled)
    (hr : r.resetDeadline = (s.bus.slots.get slot).resetDeadline) : RecordsKept s (setSlot slot r s) := by
  intro x
  by_cases e : slot = x
  · subst e
    simp [setSlot, he, hr]
  · simp [setSlot, e]

theorem fence_bus (slot : Slot) (s : State) : RecordsKept s (fence slot s) ∧
    (fence slot s).bus.claimants = s.bus.claimants := by
  unfold fence
  dsimp only
  split
  · exact ⟨recordsKept_of_eq rfl, rfl⟩
  · refine ⟨recordsKept_trans (setSlot_recordsKept (slot := slot)
      (r := { s.bus.slots.get slot with fenced := true }) rfl rfl) (recordsKept_of_eq (by simp)), by simp [setSlot]⟩

theorem takeFault_bus (r : FaultReport) (s : State) : RecordsKept s (takeFault r s) ∧
    (takeFault r s).bus.claimants = s.bus.claimants := by
  have fenced : RecordsKept s (applyAutofence r (markSummary r s)) ∧
      (applyAutofence r (markSummary r s)).bus.claimants = s.bus.claimants := by
    have marked : (markSummary r s).bus = s.bus := by simp
    unfold applyAutofence
    split
    · split
      · obtain ⟨records, claims⟩ := fence_bus _ (markSummary r s)
        exact ⟨recordsKept_trans (recordsKept_of_eq (by rw [marked])) records, claims.trans (by rw [marked])⟩
      · exact ⟨recordsKept_of_eq (by rw [marked]), by rw [marked]⟩
    · exact ⟨recordsKept_of_eq (by rw [marked]), by rw [marked]⟩
  simpa [takeFault, RecordsKept] using fenced

theorem eligible_of_kept {s t : State} (h : RecordsKept s t) (x : Slot) : eligible x t = eligible x s := by
  simp [eligible, SlotRecord.inReset, (h x).1, (h x).2]

theorem claimantsEligible_of_kept {s t : State} (h : ClaimantsEligible s) (records : RecordsKept s t)
    (claims : t.bus.claimants = s.bus.claimants) : ClaimantsEligible t := by
  intro x hx
  rw [eligible_of_kept records]
  exact h x (claims ▸ hx)

theorem claimantsEligible_of_eq {s t : State} (h : ClaimantsEligible s) (hs : t.bus.slots = s.bus.slots)
    (hc : t.bus.claimants = s.bus.claimants) : ClaimantsEligible t :=
  claimantsEligible_of_kept h (recordsKept_of_eq hs) hc

/-- A new presentation may be claimed by cards that are out of reset alone (R74). -/
theorem claimantsEligible_new {space : Space} {selected : Option Slot} {s t : State} (hs : t.bus.slots = s.bus.slots)
    (hc : t.bus.claimants = claimants space selected s) : ClaimantsEligible t := by
  intro x hx
  rw [eligible_of_kept (recordsKept_of_eq hs)]
  rw [hc, mem_claimants] at hx
  exact hx.1

theorem holdInReset_claimantsEligible (slot : Slot) (r : SlotRecord) {s : State} (h : ClaimantsEligible s) :
    ClaimantsEligible (holdInReset slot r s) := by
  intro x hx
  obtain ⟨hx, other⟩ := (mem_claimants_holdInReset slot x r s).mp hx
  have other' : ¬ slot = x := fun e => other e.symm
  simpa [eligible, holdInReset, other'] using h x hx

/-- A slot that becomes eligible takes no claim away. -/
theorem setSlot_claimantsEligible {slot : Slot} {r : SlotRecord} {s : State} (h : ClaimantsEligible s)
    (grows : eligible slot s = true → (r.enabled && !r.inReset) = true) : ClaimantsEligible (setSlot slot r s) := by
  intro x hx
  have old := h x hx
  by_cases e : slot = x
  · subst e
    simpa [eligible, setSlot] using grows old
  · simpa [eligible, setSlot, e] using old

theorem endOwnership_slots (slot : Slot) (s : State) : (endOwnership slot s).bus.slots = s.bus.slots ∧
    (endOwnership slot s).bus.claimants = s.bus.claimants := by
  unfold endOwnership
  split <;> exact ⟨rfl, rfl⟩

theorem dropBus_slots (s : State) : (dropBus s).bus.slots = s.bus.slots ∧
    (dropBus s).bus.claimants = s.bus.claimants := by
  unfold dropBus
  split <;> exact ⟨rfl, rfl⟩

theorem releaseMaster_slots (s : State) : (releaseMaster s).bus.slots = s.bus.slots ∧
    (releaseMaster s).bus.claimants = s.bus.claimants := by
  unfold releaseMaster
  split
  · exact ⟨rfl, rfl⟩
  · exact dropBus_slots s

/-- Slot records and claims stay, or a new presentation is on the bus. -/
def ClaimsKept (s t : State) : Prop := RecordsKept s t ∧ (ClaimantsEligible s → ClaimantsEligible t)

theorem claimsKept_of_eq {s t : State} (hs : t.bus.slots = s.bus.slots) (hc : t.bus.claimants = s.bus.claimants) :
    ClaimsKept s t := ⟨recordsKept_of_eq hs, fun h => claimantsEligible_of_eq h hs hc⟩

theorem claimsKept_of_bus {s t : State} (h : t.bus = s.bus) : ClaimsKept s t := claimsKept_of_eq (by rw [h]) (by rw [h])

theorem claimsKept_refl (s : State) : ClaimsKept s s := claimsKept_of_bus rfl

theorem claimsKept_trans {s t u : State} (h : ClaimsKept s t) (g : ClaimsKept t u) : ClaimsKept s u :=
  ⟨recordsKept_trans h.1 g.1, fun c => g.2 (h.2 c)⟩

theorem takeFault_claimsKept (r : FaultReport) (s : State) : ClaimsKept s (takeFault r s) := by
  obtain ⟨records, claims⟩ := takeFault_bus r s
  exact ⟨records, fun h => claimantsEligible_of_kept h records claims⟩

theorem presentAccess_claimsKept (a : Downstream) (s : State) : ClaimsKept s (presentAccess a s) :=
  ⟨recordsKept_of_eq rfl, fun _ => claimantsEligible_new (space := a.space) (selected := a.slot) rfl rfl⟩

theorem awaitTarget_claimsKept (address : BusAddress) (x : Transfer) (s : State) :
    ClaimsKept s (awaitTarget address x s) :=
  ⟨recordsKept_of_eq rfl, fun _ => claimantsEligible_new (space := address.space) (selected := none) rfl rfl⟩

theorem endOwnership_claimsKept (slot : Slot) (s : State) : ClaimsKept s (endOwnership slot s) :=
  claimsKept_of_eq (endOwnership_slots slot s).1 (endOwnership_slots slot s).2

theorem respond_claimsKept (slot : Slot) (length k : Nat) (answer : Answer) (s : State) :
    ClaimsKept s (respond slot length k answer s) := by
  have driven : ∀ r data, ClaimsKept s (endOwnership slot (drive r data s)) := fun r data =>
    claimsKept_trans (t := drive r data s) (claimsKept_of_eq rfl rfl) (endOwnership_claimsKept slot _)
  unfold respond
  split
  · split
    · exact claimsKept_of_eq rfl rfl
    · exact driven _ _
  · exact driven _ _
  · exact driven _ _

theorem windowAccess_claimsKept (slot : Slot) (a : CardAddr) (x : Transfer) (lock : Bool) (s : State) :
    ClaimsKept s (windowAccess slot a x lock s).2 := by
  have counted : ∀ r : SlotRecord, r.enabled = (slotAt slot s).enabled → r.resetDeadline = (slotAt slot s).resetDeadline →
      ClaimsKept s (setSlot slot r s) := fun r he hr =>
    ⟨setSlot_recordsKept he hr, fun h => claimantsEligible_of_kept h (setSlot_recordsKept he hr) rfl⟩
  unfold windowAccess
  dsimp only
  split
  · exact counted _ rfl rfl
  · split
    · exact counted _ rfl rfl
    · unfold translateAndServe
      split
      · exact takeFault_claimsKept _ s
      · next t _ =>
        obtain ⟨_, bus, _⟩ := serve_keeps t x lock s
        exact claimsKept_of_bus bus

theorem slotPresentation_claimsKept (slot : Slot) (address : BusAddress) (x : Transfer) (lock : Bool) (s : State) :
    ClaimsKept s (after (.slotPresentation slot address x lock) s) := by
  simp only [after, exec, execSlotPresentation]
  split
  · have reported : ClaimsKept s (if lock then s else lockReport slot s) := by
      split
      · exact claimsKept_refl s
      · exact claimsKept_of_bus (by simp)
    refine claimsKept_trans reported ?_
    cases claims address (if lock then s else lockReport slot s) with
    | some a => exact claimsKept_trans (windowAccess_claimsKept slot a _ lock _) (respond_claimsKept _ _ _ _ _)
    | none => exact awaitTarget_claimsKept _ _ _
  · exact claimsKept_refl s

theorem released_claimsKept (a : Option Downstream) (s : State) : ClaimsKept s (releaseMaster (setAccess a s)) :=
  claimsKept_of_eq (releaseMaster_slots _).1 (releaseMaster_slots _).2

theorem failAccess_claimsKept (a : Downstream) (code : ResultCode) (s : State) : ClaimsKept s (failAccess a code s) := by
  unfold failAccess
  dsimp only
  split
  · exact released_claimsKept none s
  · refine claimsKept_trans (released_claimsKept none s) (claimsKept_of_bus ?_)
    split <;> simp

theorem followAnswer_claimsKept (a : Downstream) (r : Response) (data : List Byte) (s : State) :
    ClaimsKept s (followAnswer a r data s) := by
  cases r with
  | complete =>
    simp only [followAnswer]
    split
    · unfold finishWrite
      dsimp only
      split
      · exact released_claimsKept none s
      · exact claimsKept_trans (released_claimsKept none s) (claimsKept_of_bus (by simp))
    · unfold finishRead
      split
      · exact released_claimsKept none s
      · have released : ClaimsKept s (releaseMaster s) := claimsKept_of_eq (releaseMaster_slots s).1 (releaseMaster_slots s).2
        dsimp only
        split <;> exact claimsKept_trans released (claimsKept_of_bus (by simp))
  | partly n => exact presentAccess_claimsKept _ s
  | retry =>
    simp only [followAnswer, retryAccess]
    split
    · exact released_claimsKept none s
    · split
      · exact failAccess_claimsKept _ _ s
      · split
        · exact presentAccess_claimsKept _ s
        · exact released_claimsKept _ s
  | abort => exact failAccess_claimsKept a _ s

theorem grant_claimsKept (requests : BitVec 6) (s : State) : ClaimsKept s (grant requests s) := by
  have owned : ∀ lock, ClaimsKept s (ownBus lock s) := fun lock => claimsKept_of_eq rfl rfl
  have access : ClaimsKept s (grantAccess s) := by
    unfold grantAccess
    split
    · exact claimsKept_trans (owned _) (presentAccess_claimsKept _ _)
    · exact claimsKept_refl s
  have slot : ∀ x, ClaimsKept s (grantSlot x s) := fun x => claimsKept_of_eq rfl rfl
  unfold grant
  split
  · split
    · exact access
    · exact claimsKept_refl s
  · split
    · split
      · exact slot _
      · exact claimsKept_refl s
    · unfold grantFree
      split
      · exact claimsKept_trans (owned true) (claimsKept_of_bus (t := grantLock s) (by simp [grantLock]))
      · split
        · exact access
        · split
          · exact slot _
          · exact claimsKept_refl s

theorem expireEpisode_claimsKept (e : Episode) (s : State) : ClaimsKept s (expireEpisode e s) := by
  have overrun := takeFault_claimsKept { kind := .exclOverrun, slot := some e.slot } s
  unfold expireEpisode
  dsimp only
  split
  · split
    · exact claimsKept_trans overrun (claimsKept_of_bus (by simp))
    · exact claimsKept_trans overrun (claimsKept_of_bus (by simp))
  · generalize (if e.heldRead.any HeldRead.isWaiting then e.heldRead else none) = held
    split
    · exact claimsKept_trans overrun (claimsKept_of_bus (by simp))
    · exact claimsKept_trans overrun (claimsKept_of_bus (by simp))
  · exact claimsKept_refl s

theorem linkLoss_claimsKept (training reset : Bool) (s : State) : ClaimsKept s (linkLoss training reset s) := by
  have master : ClaimsKept s (lossMaster (lossTracker (lossStaging s))) := by
    unfold lossMaster
    split
    · exact claimsKept_of_bus (by simp)
    · exact claimsKept_trans (claimsKept_of_bus (by simp))
        (claimsKept_of_eq (dropBus_slots (setAccess none (lossTracker (lossStaging s)))).1 (dropBus_slots _).2)
  exact claimsKept_trans master (claimsKept_trans (claimsKept_of_bus (by simp)) (takeFault_claimsKept _ _))

/-- The commands that neither reset nor enable a slot: records and claims are kept. -/
theorem after_claimsKept {i : Instr} (ho : orderedStart i = none) (power : i ≠ .powerOnReset)
    (release : ∀ slot, i ≠ .slotResetEnd slot) (s : State) : ClaimsKept s (after i s) := by
  by_cases touches : Block.bus ∈ touched i
  case neg => exact claimsKept_of_bus ((after_changes i s).1 .bus touches)
  have loss : ∀ training reset t, t.bus = s.bus → ClaimsKept s (linkLoss training reset t) := fun _ _ t h =>
    claimsKept_trans (claimsKept_of_bus h) (linkLoss_claimsKept _ _ t)
  have passed : ∀ d, ClaimsKept s (passTo d s) := fun d => claimsKept_of_bus (by simp)
  cases i with
  | powerOnReset => exact absurd rfl power
  | slotResetEnd slot => exact absurd rfl (release slot)
  | initReceived p =>
    simp only [after, exec, execInitReceived, receive]
    split
    · exact initFrame_ind _ (claimsKept_refl s) (fun _ => claimsKept_of_bus rfl)
        (fun _ => claimsKept_of_bus ((enterUp_changes _ s).1 .bus (by simp))) fun _ => loss _ _ s rfl
    · exact claimsKept_of_bus (by simp)
  | nakReceived p =>
    exact receive_ind (claimsKept_refl s) (claimsKept_of_bus (by simp)) fun _ =>
      applyNak_ind _ (fun _ _ => claimsKept_of_bus rfl) fun _ => loss _ _ _ rfl
  | linkResetReceived p =>
    exact receive_ind (claimsKept_refl s) (claimsKept_of_bus (by simp)) fun _ => loss _ _ s rfl
  | lossOfSignal =>
    simp only [after, exec, execLossOfSignal]
    split
    · exact loss _ _ s rfl
    · exact claimsKept_of_bus rfl
    · exact claimsKept_refl s
  | replayDeadlineExpiry =>
    simp only [after, exec, execReplayDeadlineExpiry]
    split
    · exact replayDue_ind (fun _ _ => claimsKept_of_bus (by simp)) (loss _ _ _ (by simp))
    · exact claimsKept_refl s
  | slotPresentation slot address x lock => exact slotPresentation_claimsKept slot address x lock s
  | busGrant requests =>
    simp only [after, exec, execBusGrant]
    split
    · exact grant_claimsKept requests s
    · exact claimsKept_refl s
  | grantIdleTimeout =>
    simp only [after, exec, execGrantIdleTimeout]
    split
    · exact claimsKept_trans (passed _) (endOwnership_claimsKept _ _)
    · exact claimsKept_refl s
  | requestDropped slot =>
    simp only [after, exec, execRequestDropped]
    split
    · exact endOwnership_claimsKept _ s
    · exact claimsKept_refl s
  | presentationAnswer r data =>
    simp only [after, exec, execPresentationAnswer]
    split
    · split
      · exact followAnswer_claimsKept _ _ _ s
      · exact claimsKept_refl s
    · exact claimsKept_refl s
  | noClaim =>
    simp only [after, exec, execNoClaim]
    split
    · split
      · exact claimsKept_trans (passed _) (failAccess_claimsKept _ _ _)
      · exact claimsKept_refl s
    · exact claimsKept_refl s
  | episodeLimitExpiry =>
    simp only [after, exec, execEpisodeLimitExpiry]
    split
    · split
      · exact claimsKept_trans (passed _) (expireEpisode_claimsKept _ _)
      · exact claimsKept_refl s
    · exact claimsKept_refl s
  | lockLimitExpiry =>
    simp only [after, exec, execLockLimitExpiry, expireLock]
    split
    · split
      · exact claimsKept_of_bus (by simp)
      · exact claimsKept_trans (claimsKept_of_bus (by simp)) (claimsKept_of_eq (dropBus_slots _).1 (dropBus_slots _).2)
    · exact claimsKept_refl s
  | slotTransactionAnswer r =>
    simp only [after, exec, execSlotTransactionAnswer]
    split
    · split
      · cases r with
        | partly n =>
          simp only [targetAnswer]
          split
          · exact claimsKept_of_eq rfl rfl
          · exact claimsKept_refl s
        | complete | retry | abort => exact endOwnership_claimsKept _ s
      · exact claimsKept_refl s
    · exact claimsKept_refl s
  | slotTransactionNoClaim =>
    simp only [after, exec, execSlotTransactionNoClaim]
    split
    · exact claimsKept_trans (passed _) (endOwnership_claimsKept _ _)
    · exact claimsKept_refl s
  | _ => simp [touched, noneBlocks, sendBlocks, orderedStart] at touches ho

/-! ### Ordered commands and slot resets -/

theorem lookAtLine_bus (slot : Slot) (s : State) : (lookAtLine slot s).bus = s.bus := by simp

theorem holdSlot_claimantsEligible (slot : Slot) (r : SlotRecord) {s : State} (h : ClaimantsEligible s) :
    ClaimantsEligible (endEvent slot (quiesceSlot slot (endOwnership slot (holdInReset slot r s)))) :=
  (claimsKept_trans (endOwnership_claimsKept slot _) (claimsKept_of_bus (by simp))).2
    (holdInReset_claimantsEligible slot r h)

theorem beginSlotReset_claimantsEligible (slot : Slot) {s : State} (h : ClaimantsEligible s) :
    ClaimantsEligible (beginSlotReset slot s) := holdSlot_claimantsEligible slot _ h

theorem enableSlot_claimantsEligible (slot : Slot) {s : State} (h : ClaimantsEligible s) :
    ClaimantsEligible (enableSlot slot s) := by
  unfold enableSlot
  split
  · exact h
  · next off =>
    refine (claimsKept_of_bus (lookAtLine_bus slot _)).2 (setSlot_claimantsEligible h fun on => ?_)
    simp only [eligible, Bool.and_eq_true] at on
    exact absurd on.1 off

theorem endSlotReset_claimantsEligible (slot : Slot) {s : State} (h : ClaimantsEligible s) :
    ClaimantsEligible (endSlotReset slot s) := by
  have released : ClaimantsEligible (setSlot slot { slotAt slot s with resetDeadline := none } s) :=
    setSlot_claimantsEligible h fun on => by
      simp only [eligible, Bool.and_eq_true] at on
      simpa [SlotRecord.inReset, slotAt] using on.1
  unfold endSlotReset
  dsimp only
  refine (claimsKept_of_bus (lookAtLine_bus slot _)).2 ?_
  split
  · exact (claimsKept_of_bus (by simp)).2 released
  · exact released

theorem startAccess_claimsKept (write : Bool) (f : AccessFields) (data : List Byte) (s : State) :
    ClaimsKept s (startAccess write f data s) := by
  unfold startAccess
  split
  · exact claimsKept_of_bus (by simp)
  · dsimp only
    split
    · exact claimsKept_trans (t := setWait .bus s) (claimsKept_of_bus (by simp)) (presentAccess_claimsKept _ _)
    · exact claimsKept_of_bus (by simp)

theorem startLockClose_claimsKept (s : State) : ClaimsKept s (startLockClose s) := by
  unfold startLockClose
  split
  · have freed : ClaimsKept s (dropBus (s.setLocks { s.locks with hostLock := .free })) :=
      claimsKept_of_eq (dropBus_slots _).1 (dropBus_slots _).2
    exact claimsKept_trans freed (claimsKept_of_bus (by simp))
  · exact claimsKept_of_bus (by simp)

theorem startBridgeReset_claimantsEligible (s : State) : ClaimantsEligible (startBridgeReset s) := by
  unfold startBridgeReset
  refine (takeFault_claimsKept _ _).2 fun x hx => ?_
  simp [resetBlocks, SlotBus.reset] at hx

/-- An action of SLOT_CONTROL that keeps the claims. -/
theorem slotCommand_claimantsEligible {action : SlotAction} {act : Slot → State → State} {s : State}
    (h : ClaimantsEligible s) (ha : ∀ slot t, ClaimantsEligible t → ClaimantsEligible (act slot t)) :
    ClaimantsEligible (slotCommand action act s) :=
  slotCommand_ind h fun e rest slot _ =>
    (claimsKept_of_bus (by simp)).2 (ha slot _ ((claimsKept_of_bus (t := beginHead e rest s) (by simp)).2 h))

theorem after_claimantsEligible (i : Instr) (s : State) (h : ClaimantsEligible s) : ClaimantsEligible (after i s) := by
  have begun : ∀ e rest, ClaimantsEligible (beginHead e rest s) := fun e rest => (claimsKept_of_bus (by simp)).2 h
  have kept : ∀ slot t (r : SlotRecord), r.enabled = (slotAt slot t).enabled → r.resetDeadline = (slotAt slot t).resetDeadline →
      ClaimantsEligible t → ClaimantsEligible (setSlot slot r t) := fun slot t r he hr ht =>
    claimantsEligible_of_kept ht (setSlot_recordsKept he hr) rfl
  by_cases touches : Block.bus ∈ touched i
  case neg => exact (claimsKept_of_bus ((after_changes i s).1 .bus touches)).2 h
  cases ho : orderedStart i with
  | none =>
    by_cases power : i = .powerOnReset
    · subst power
      intro x hx
      simp [after, exec, execPowerOnReset, powerOn, State.reset, SlotBus.reset] at hx
    by_cases release : ∃ slot, i = .slotResetEnd slot
    · obtain ⟨slot, rfl⟩ := release
      simp only [after, exec, execSlotResetEnd]
      split
      · exact endSlotReset_claimantsEligible slot ((claimsKept_of_bus (by simp)).2 h)
      · exact h
    exact (after_claimsKept ho power (fun slot e => release ⟨slot, e⟩) s).2 h
  | some start =>
    cases i with
    | slotControlEnable => exact slotCommand_claimantsEligible h fun slot t ht => enableSlot_claimantsEligible slot ht
    | slotControlDisable =>
      refine slotCommand_claimantsEligible h fun slot t ht => ?_
      unfold disableSlot
      split
      · exact holdSlot_claimantsEligible slot _ ht
      · exact ht
    | slotControlFence =>
      exact slotCommand_claimantsEligible h fun slot t ht =>
        claimantsEligible_of_kept ht (fence_bus slot t).1 (fence_bus slot t).2
    | slotControlUnfence => exact slotCommand_claimantsEligible h fun slot t ht => kept slot t _ rfl rfl ht
    | slotControlReset =>
      refine slotReset_ind h fun e rest slot _ => ?_
      split
      · exact (claimsKept_of_bus (by simp)).2 (beginSlotReset_claimantsEligible slot (begun e rest))
      · exact (claimsKept_of_bus (by simp)).2 (begun e rest)
    | slotControlClearFaults =>
      exact slotCommand_claimantsEligible h fun slot t ht => (claimsKept_of_bus rfl).2 (kept slot t
        { slotAt slot t with fencedAborts := 0, downAborts := 0 } rfl rfl ht)
    | slotControlAutofenceOn => exact slotCommand_claimantsEligible h fun slot t ht => kept slot t _ rfl rfl ht
    | slotControlAutofenceOff => exact slotCommand_claimantsEligible h fun slot t ht => kept slot t _ rfl rfl ht
    | cardRead | cardWrite =>
      refine runHead_ind h fun e rest c f _ hf => ?_
      cases c <;> simp only [reduceCtorEq, Option.some.injEq] at hf
      exact hf ▸ (startAccess_claimsKept _ _ _ _).2 (begun e rest)
    | lockClose =>
      refine runHead_ind h fun e rest c f _ hf => ?_
      cases c <;> simp only [reduceCtorEq, Option.some.injEq] at hf
      exact hf ▸ (startLockClose_claimsKept _).2 (begun e rest)
    | bridgeReset =>
      refine runHead_ind h fun e rest c f _ hf => ?_
      cases c <;> simp only [reduceCtorEq, Option.some.injEq] at hf
      exact hf ▸ startBridgeReset_claimantsEligible _
    | _ => simp [touched, orderedStart] at touches ho

end Sys2Proof.Machine
end

section
/-! The room of the reply queue, and the settings in their ranges. -/

namespace Sys2Proof.Machine

/-! ### The host lock and its limits -/

/-- The host lock is FREE in both states or in neither, and the limits of the Lock Unit are the same. -/
def LockKept (s t : State) : Prop :=
  (t.locks.hostLock = .free ↔ s.locks.hostLock = .free) ∧ t.locks.lockLimit = s.locks.lockLimit ∧
    t.locks.episodeLimit = s.locks.episodeLimit

theorem lockKept_of_eq {s t : State} (h : t.locks = s.locks) : LockKept s t := by simp [LockKept, h]

theorem lockKept_of_moves {s t : State} (h : EpisodeMoves s t) : LockKept s t := by
  obtain ⟨e, a, h⟩ := h
  simp [LockKept, h]

theorem lockKept_trans {s t u : State} (h : LockKept s t) (g : LockKept t u) : LockKept s u := by
  obtain ⟨h1, h2, h3⟩ := h
  obtain ⟨g1, g2, g3⟩ := g
  exact ⟨g1.trans h1, g2.trans h2, g3.trans h3⟩

theorem grant_lockKept (requests : BitVec 6) (s : State) : LockKept s (grant requests s) := by
  have access : LockKept s (grantAccess s) := by
    unfold grantAccess
    split <;> exact lockKept_of_eq rfl
  have slot : ∀ x, LockKept s (grantSlot x s) := fun x => lockKept_of_eq rfl
  unfold grant
  split
  · split
    · exact access
    · exact lockKept_of_eq rfl
  · split
    · split
      · exact slot _
      · exact lockKept_of_eq rfl
    · unfold grantFree
      split
      · next acquiring =>
        have old : s.locks.hostLock = .acquiring := by simpa [lockAcquiring] using acquiring
        simp [LockKept, grantLock, old]
      · split
        · exact access
        · split
          · exact slot _
          · exact lockKept_of_eq rfl

theorem slotPresentation_lockKept (slot : Slot) (address : BusAddress) (x : Transfer) (lock : Bool) (s : State) :
    LockKept s (after (.slotPresentation slot address x lock) s) := by
  simp only [after, exec, execSlotPresentation]
  split
  · have reported : LockKept s (if lock then s else lockReport slot s) := by
      split
      · exact lockKept_of_eq rfl
      · exact lockKept_of_moves (lockReport_moves slot s)
    refine lockKept_trans reported ?_
    cases claims address (if lock then s else lockReport slot s) with
    | some a =>
      exact lockKept_trans (lockKept_of_moves (windowAccess_moves slot a (cutTransfer (blockLength a x) x) lock _))
        (lockKept_of_eq (by simp [claimedPresentation]))
    | none => exact lockKept_of_eq rfl
  · exact lockKept_of_eq rfl

/-- The commands that settle neither free nor take the host lock, and set no limit. -/
theorem settling_lockKept {i : Instr} (h : settling i = true) (s : State) : LockKept s (after i s) := by
  by_cases touches : Block.locks ∈ touched i
  case neg => exact lockKept_of_eq ((after_changes i s).1 .locks touches)
  have passed : ∀ d, LockKept s (passTo d s) := fun d => lockKept_of_eq (by simp)
  cases i with
  | slotPresentation slot address x lock => exact slotPresentation_lockKept slot address x lock s
  | lockRelease slot => exact lockKept_of_moves (lockReport_moves slot s)
  | busGrant requests =>
    simp only [after, exec, execBusGrant]
    split
    · exact grant_lockKept requests s
    · exact lockKept_of_eq rfl
  | readTimeoutExpiry tag =>
    simp only [after, exec, execReadTimeoutExpiry]
    split
    · exact lockKept_trans (passed _) (lockKept_of_moves (finishRequest_moves _ _ _ _))
    · exact lockKept_of_eq rfl
  | episodeLimitExpiry =>
    simp only [after, exec, execEpisodeLimitExpiry]
    split
    · split
      · exact lockKept_trans (passed _) (lockKept_of_moves (expireEpisode_moves _ _))
      · exact lockKept_of_eq rfl
    · exact lockKept_of_eq rfl
  | slotDrainComplete slot =>
    have event : LockKept s (reportEventDrain slot s) := by
      unfold reportEventDrain
      dsimp only
      split <;> exact lockKept_of_eq (by simp)
    refine lockKept_trans event ?_
    change LockKept _ (reportEpisodeDrain slot (reportEventDrain slot s))
    unfold reportEpisodeDrain
    dsimp only
    split
    · exact lockKept_trans (lockKept_of_eq (by simp)) (lockKept_of_moves (episodeDrained_moves _ _))
    · exact lockKept_of_eq rfl
  | exclEndPlaced =>
    simp only [after, exec, execExclEndPlaced]
    split
    · split
      · exact lockKept_of_moves ⟨_, _, joinEnd_locks _ s⟩
      · exact lockKept_of_eq rfl
    · exact lockKept_of_eq rfl
  | exclBeginAllocation =>
    simp only [after, exec, execExclBeginAllocation]
    split
    · split
      · exact lockKept_of_moves (episodeDrained_moves _ s)
      · exact lockKept_of_eq rfl
    · exact lockKept_of_eq rfl
  | lockLimitExpiry => cases h
  | _ => simp [settling, touched, lossBlocks, noneBlocks, masterBlocks, sendBlocks] at h touches

/-! ### The room of the reply queue -/

/-- The number of slots in reset. -/
def resetCount (s : State) : Nat := (allSlots.filter (fun x => (s.bus.slots.get x).inReset)).length

/-- What the host lock may still queue (R99). -/
def lockShare (s : State) : Nat := if s.locks.hostLock = .free then 0 else 1

/-- What the bridge reset in progress still queues (R165). -/
def resettingShare (s : State) : Nat := if s.command.resetting then 1 else 0

theorem replyRoom_iff (s : State) :
    ReplyRoom s ↔ load s.command + resetCount s + lockShare s + resettingShare s ≤ 16 := Iff.rfl

theorem resetCount_le (s : State) : resetCount s ≤ 6 := List.length_filter_le _ allSlots

theorem lockShare_le (s : State) : lockShare s ≤ 1 := by
  unfold lockShare
  split <;> simp

theorem resettingShare_le (s : State) : resettingShare s ≤ 1 := by
  unfold resettingShare
  split <;> simp

theorem resetCount_of_kept {s t : State} (h : RecordsKept s t) : resetCount t = resetCount s := by
  simp [resetCount, SlotRecord.inReset, (h _).2]

theorem lockShare_of_kept {s t : State} (h : LockKept s t) : lockShare t = lockShare s := by simp [lockShare, h.1]

theorem replyRoom_of_kept {s t : State} (h : ReplyRoom s) (loads : load t.command ≤ load s.command)
    (resetting : t.command.resetting = s.command.resetting) (records : RecordsKept s t) (lock : LockKept s t) :
    ReplyRoom t := by
  rw [replyRoom_iff] at h ⊢
  rw [resetCount_of_kept records, lockShare_of_kept lock, resettingShare, resetting]
  unfold resettingShare at h
  omega

theorem replyRoom_of_eq {s t : State} (h : ReplyRoom s) (command : t.command = s.command) (bus : t.bus = s.bus)
    (locks : t.locks = s.locks) : ReplyRoom t :=
  replyRoom_of_kept h (by rw [command]) (by rw [command]) (recordsKept_of_eq (by rw [bus])) (lockKept_of_eq locks)

/-- Eight frames beside the resets and the lock fit, with no bridge reset in progress. -/
theorem replyRoom_of_load {s : State} (loads : load s.command ≤ 8) (resetting : s.command.resetting = false) :
    ReplyRoom s := by
  have resets := resetCount_le s
  have lock := lockShare_le s
  rw [replyRoom_iff, resettingShare, resetting]
  simp only [Bool.false_eq_true, if_false]
  omega

/-- An arrival answer is queued only while the reply queue holds 6 frames or fewer (R153). -/
theorem replyRoom_of_answer {s : State} (replies : s.command.replies.length ≤ 7) : ReplyRoom s := by
  have resets := resetCount_le s
  have lock := lockShare_le s
  have resetting := resettingShare_le s
  have executing : load s.command ≤ s.command.replies.length + 1 := by
    unfold load
    split <;> omega
  rw [replyRoom_iff]
  omega

theorem linkLoss_replyRoom (training reset : Bool) (s : State) : ReplyRoom (linkLoss training reset s) :=
  replyRoom_of_answer (by simp [linkLoss, lossCommand])

theorem answer_replyRoom (f : CommandFrame) (v : Verdict) {s : State} (h : ReplyRoom s)
    (admitted : s.command.replies.length ≤ 6) : ReplyRoom (answer f v s) := by
  have answered : ∀ c b, (answerArrival f c b s).command.replies.length ≤ 7 := fun c b => by
    have credit : ∀ t : State, (returnCredit t).command = t.command := fun t => by simp
    rw [answerArrival, credit]
    simpa [queueReport] using Nat.lt_succ_of_le admitted
  cases v with
  | eventAck slot seq =>
    simp only [answer, runEventAck]
    split
    · exact replyRoom_of_answer (by simpa using answered .ok [])
    · exact replyRoom_of_answer (answered _ _)
  | ordered => exact h
  | _ => exact replyRoom_of_answer (answered _ _)

theorem arrive_replyRoom (p : List Byte) {s : State} (h : ReplyRoom s) : ReplyRoom (arrive p s) := by
  unfold arrive
  split
  · exact replyRoom_of_eq h (by simp) (by simp) (by simp)
  · split
    · exact replyRoom_of_kept h (by simp) (by simp) (takeFault_bus _ s).1 (lockKept_of_eq (by simp))
    · have queued : ∀ f held, ReplyRoom (enqueue f held s) := fun f held =>
        replyRoom_of_kept h le_rfl rfl (recordsKept_of_eq rfl) (lockKept_of_eq rfl)
      unfold decideArrival
      split
      · exact queued _ _
      · split
        · next admitted => exact answer_replyRoom _ _ h (by simpa [answerAdmitted] using admitted)
        · exact queued _ _

theorem takeHeld_replyRoom (before rest : List CommandEntry) (e : CommandEntry) {s : State} (h : ReplyRoom s)
    (admitted : s.command.replies.length ≤ 6) : ReplyRoom (takeHeld before e rest s) := by
  have queued : ∀ q, ReplyRoom (s.setCommand { s.command with queue := q }) := fun q =>
    replyRoom_of_kept h le_rfl rfl (recordsKept_of_eq rfl) (lockKept_of_eq rfl)
  unfold takeHeld
  dsimp only
  split
  · exact queued _
  · exact answer_replyRoom _ _ (queued _) admitted

theorem startBridgeReset_replyRoom {s : State} (loads : load s.command ≤ 8) : ReplyRoom (startBridgeReset s) := by
  have bus : RecordsKept (resetBlocks s) (startBridgeReset s) :=
    recordsKept_trans (recordsKept_of_eq rfl) (takeFault_bus _ _).1
  have resets : resetCount (startBridgeReset s) = 0 := by
    rw [resetCount_of_kept bus]
    simp [resetCount, resetBlocks, SlotBus.reset, SlotRecord.reset, SlotRecord.inReset]
  have lock : lockShare (startBridgeReset s) = 0 := by simp [lockShare, startBridgeReset, resetBlocks, LockUnit.reset]
  have resetting := resettingShare_le (startBridgeReset s)
  have kept : load (startBridgeReset s).command ≤ load s.command := by
    rw [startBridgeReset_command]
    obtain ⟨_, _, _, le, _⟩ := complete_settles .ok [] s
    exact le
  rw [replyRoom_iff]
  omega

theorem ordered_replyRoom {i : Instr} {start : Command → Option (State → State)} (ho : orderedStart i = some start)
    {s : State} (h : ReplyRoom s) : ReplyRoom (after i s) := by
  rw [after_ordered ho]
  refine runHead_ind h fun e rest c f hh hf => ?_
  obtain ⟨_, _, _, resetting, replies, _⟩ := hh
  have begun : load (beginHead e rest s).command ≤ 8 := by
    rw [(beginHead_spec e rest s).1]
    simpa [load] using Nat.lt_succ_of_le replies
  by_cases reset : i = .bridgeReset
  · subst reset
    cases ho
    cases c <;> simp only [reduceCtorEq, Option.some.injEq] at hf
    exact hf ▸ startBridgeReset_replyRoom begun
  · obtain ⟨_, _, kept, loads, _⟩ := ordered_settles ho reset hf (beginHead e rest s)
    refine replyRoom_of_load (loads.trans begun) (kept.trans ?_)
    rw [(beginHead_spec e rest s).1]
    exact resetting

theorem allSlots_nodup : allSlots.Nodup := by decide

/-- A slot leaves reset (R92). -/
theorem resetCount_release {slot : Slot} {s t : State} (old : (s.bus.slots.get slot).inReset = true)
    (new : (t.bus.slots.get slot).inReset = false)
    (others : ∀ x, x ≠ slot → (t.bus.slots.get x).inReset = (s.bus.slots.get x).inReset) :
    resetCount t + 1 ≤ resetCount s := by
  have all : (Finset.univ : Finset Slot) = allSlots.toFinset := by decide
  have card : ∀ u : State, resetCount u = (Finset.univ.filter fun x => (u.bus.slots.get x).inReset = true).card := by
    intro u
    rw [all, ← List.toFinset_filter, List.toFinset_card_of_nodup (allSlots_nodup.filter _)]
    rfl
  rw [card, card]
  refine Finset.card_lt_card (Finset.ssubset_iff_of_subset ?_ |>.mpr ⟨slot, by simpa using old, by simp [new]⟩)
  intro x hx
  simp only [Finset.mem_filter, Finset.mem_univ, true_and] at hx ⊢
  by_cases e : x = slot
  · rw [e, new] at hx
    cases hx
  · rwa [← others x e]

theorem load_queueReport (f : ReportFrame) (s : State) : load (queueReport f s).command = load s.command + 1 := by
  simp only [load, queueReport, State.setCommand_command, List.length_append, List.length_singleton]
  exact Nat.add_right_comm _ _ _

theorem endSlotReset_replyRoom {slot : Slot} {s : State} (h : ReplyRoom s) (old : (s.bus.slots.get slot).inReset = true) :
    ReplyRoom (endSlotReset slot s) := by
  have released : resetCount (setSlot slot { slotAt slot s with resetDeadline := none } s) + 1 ≤ resetCount s :=
    resetCount_release old (by simp [setSlot, SlotRecord.inReset]) fun x hx => by
      have hx' : ¬ slot = x := fun e => hx e.symm
      simp [setSlot, hx']
  rw [replyRoom_iff] at h
  have looked : ∀ t, load t.command ≤ load s.command + 1 → t.command.resetting = s.command.resetting →
      t.bus = (setSlot slot { slotAt slot s with resetDeadline := none } s).bus → t.locks = s.locks →
      ReplyRoom (lookAtLine slot t) := by
    intro t loads resetting bus locks
    refine replyRoom_of_eq (s := t) ?_ (by simp) (by simp) (by simp)
    have records := resetCount_of_kept (recordsKept_of_eq (congrArg SlotBus.slots bus))
    have share := lockShare_of_kept (lockKept_of_eq locks)
    have reset : resettingShare t = resettingShare s := by rw [resettingShare, resettingShare, resetting]
    rw [replyRoom_iff, share, reset]
    omega
  unfold endSlotReset
  dsimp only
  split
  · exact looked _ (by rw [load_queueReport]; rfl) rfl rfl rfl
  · exact looked _ (Nat.le_succ _) rfl rfl rfl

theorem expireLock_replyRoom {d : Time} {s : State} (h : ReplyRoom s) (held : s.locks.hostLock = .held d) :
    ReplyRoom (expireLock s) := by
  rw [replyRoom_iff] at h
  have old : lockShare s = 1 := by simp [lockShare, held]
  have freed : ∀ t, t.command = (queueReport (.notice .lockExpired) s).command → t.bus.slots = s.bus.slots →
      t.locks.hostLock = .free → ReplyRoom t := by
    intro t command slots locks
    have share : lockShare t = 0 := by simp [lockShare, locks]
    have resetting : resettingShare t = resettingShare s := by simp [resettingShare, command, queueReport]
    rw [replyRoom_iff, command, load_queueReport, resetCount_of_kept (recordsKept_of_eq slots), share, resetting]
    omega
  unfold expireLock
  dsimp only
  split
  · exact freed _ rfl rfl rfl
  · exact freed _ (by simp [queueReport]) (by simp [dropBus_slots]) (by simp)

theorem reinitialisation_replyRoom {s : State} (h : ReplyRoom s) : ReplyRoom (after .reinitialisationComplete s) := by
  rw [replyRoom_iff] at h
  simp only [after, exec, execReinitialisationComplete]
  split
  · next resetting =>
    have old : resettingShare s = 1 := by simp [resettingShare, resetting]
    have run : ∀ t, load t.command ≤ load s.command + 1 → t.command.resetting = false → t.bus = s.bus → t.locks = s.locks →
        ReplyRoom t := by
      intro t loads resetting' bus locks
      have share : resettingShare t = 0 := by simp [resettingShare, resetting']
      have records := resetCount_of_kept (recordsKept_of_eq (congrArg SlotBus.slots bus))
      have lock := lockShare_of_kept (lockKept_of_eq locks)
      rw [replyRoom_iff]
      omega
    split
    · exact run _ (by rw [load_queueReport]; rfl) rfl rfl rfl
    · exact run _ (Nat.le_succ _) rfl rfl rfl
  · exact h

theorem serveReply_load (s : State) : load (serveReply (setClass .reply s)).command ≤ load s.command ∧
    (serveReply (setClass .reply s)).command.resetting = s.command.resetting := by
  have report : ∀ f rest, (setClass .reply s).command.replies = f :: rest →
      load (sendReport f rest (setClass .reply s)).command ≤ load s.command := by
    intro f rest h
    have replies : s.command.replies = f :: rest := h
    simp only [sendReport, transmit_frame, setSource_frame, State.setCommand_command, load, replies, List.length_cons]
    exact Nat.add_le_add_right (Nat.le_succ _) _
  have event : ∀ f rest, (sendEvent f rest (setClass .reply s)).command = s.command := by
    intro f rest
    simp [sendEvent, setSource, setClass, eventTransmitted]
  unfold serveReply
  split
  · split
    · rw [event]
      exact ⟨le_rfl, rfl⟩
    · next h _ _ => exact ⟨report _ _ h, by simp [sendReport]⟩
  · next h _ => exact ⟨report _ _ h, by simp [sendReport]⟩
  · rw [event]
    exact ⟨le_rfl, rfl⟩
  · exact ⟨le_rfl, rfl⟩

theorem serveClass_replyRoom (c : TxClass) {s : State} (h : ReplyRoom s) : ReplyRoom (serveClass c s) := by
  cases c with
  | reply =>
    obtain ⟨loads, resetting⟩ := serveReply_load s
    obtain ⟨kept, _⟩ := serveClass_changes .reply s
    have bus : (serveClass .reply s).bus = s.bus := kept .bus (by simp [sendBlocks])
    exact replyRoom_of_kept h loads resetting (recordsKept_of_eq (congrArg SlotBus.slots bus))
      (lockKept_of_eq (kept .locks (by simp [sendBlocks])))
  | fault =>
    change ReplyRoom (serveFault (setClass .fault s))
    unfold serveFault
    split <;> exact replyRoom_of_eq h (by simp [setClass]) (by simp [setClass]) (by simp [setClass])
  | posted =>
    change ReplyRoom (servePosted (setClass .posted s))
    unfold servePosted
    split <;> exact replyRoom_of_eq h (by simp [setClass]) (by simp [setClass]) (by simp [setClass])
  | request =>
    change ReplyRoom (serveRequest (setClass .request s))
    unfold serveRequest
    split
    · dsimp only
      split <;> exact replyRoom_of_eq h (by simp [setClass]) (by simp [setClass]) (by simp [setClass])
    · exact replyRoom_of_eq h (by simp [setClass]) (by simp [setClass]) (by simp [setClass])

/-- Every command keeps the room of the reply queue. -/
theorem after_replyRoom (i : Instr) (s : State) (h : ReplyRoom s) : ReplyRoom (after i s) := by
  have same : ∀ {t : State}, t.command = s.command → t.bus = s.bus → t.locks = s.locks → ReplyRoom t :=
    fun hc hb hl => replyRoom_of_eq h hc hb hl
  cases ho : orderedStart i with
  | some start => exact ordered_replyRoom ho h
  | none =>
    by_cases hs : settling i = true
    · obtain ⟨_, _, resetting, loads, _⟩ := after_settles hs s
      refine replyRoom_of_kept h loads resetting (after_claimsKept ho ?_ ?_ s).1 (settling_lockKept hs s)
      · rintro rfl
        simp [settling, touched, lossBlocks] at hs
      · rintro slot rfl
        cases hs
    by_cases untouched : Block.command ∉ touched i ∧ Block.bus ∉ touched i ∧ Block.locks ∉ touched i
    · obtain ⟨hc, hb, hl⟩ := untouched
      obtain ⟨kept, _⟩ := after_changes i s
      exact same (kept .command hc) (kept .bus hb) (kept .locks hl)
    cases i with
    | powerOnReset => exact replyRoom_of_answer (Nat.zero_le _)
    | initReceived p =>
      simp only [after, exec, execInitReceived, receive]
      split
      · refine initFrame_ind _ h (fun _ => h) (fun _ => ?_) fun _ => linkLoss_replyRoom _ _ s
        obtain ⟨kept, _⟩ := enterUp_changes (initFields p) s
        exact same (kept .command (by simp)) (kept .bus (by simp)) (kept .locks (by simp))
      · exact same (by simp) (by simp) (by simp)
    | nakReceived p =>
      exact receive_ind h (same (by simp) (by simp) (by simp)) fun _ =>
        applyNak_ind _ (fun _ _ => h) fun _ => linkLoss_replyRoom _ _ _
    | linkResetReceived p =>
      exact receive_ind h (same (by simp) (by simp) (by simp)) fun _ => linkLoss_replyRoom _ _ s
    | commandReceived seq ackSeq p =>
      exact receive_ind h (same (by simp) (by simp) (by simp)) fun _ => sequenced_ind (fun _ _ => h) fun u _ =>
        arrive_replyRoom p (s := s.setUplink u) h
    | memDataReceived seq ackSeq p =>
      refine receive_ind h (same (by simp) (by simp) (by simp)) fun _ => sequenced_ind (fun _ _ => h) fun u _ => ?_
      obtain ⟨_, _, resetting, loads, _⟩ := memData_settles p (s.setUplink u)
      have bus := (memData_changes p (s.setUplink u)).1 .bus (by simp [noneBlocks])
      refine replyRoom_of_kept (s := s.setUplink u) h loads resetting (recordsKept_of_eq (by rw [bus])) ?_
      unfold memData
      dsimp only
      split
      · split
        · split
          · exact lockKept_of_moves (finishRequest_moves _ _ _ _)
          · exact lockKept_of_eq (by simp)
        · exact lockKept_of_eq (by simp)
      · exact lockKept_of_eq (by simp)
    | lossOfSignal =>
      simp only [after, exec, execLossOfSignal]
      split
      · exact linkLoss_replyRoom _ _ s
      · exact h
      · exact h
    | replayDeadlineExpiry =>
      simp only [after, exec, execReplayDeadlineExpiry]
      split
      · exact replayDue_ind (fun _ _ => h) (linkLoss_replyRoom _ _ _)
      · exact h
    | transmitterFree => exact transmitNext_ind (fun _ _ => h) fun c _ _ => serveClass_replyRoom c h
    | heldEntryTaken =>
      simp only [after, exec, execHeldEntryTaken]
      split
      · split
        · next admitted => exact takeHeld_replyRoom _ _ _ h (of_decide_eq_true admitted)
        · exact h
      · exact h
    | slotResetEnd slot =>
      simp only [after, exec, execSlotResetEnd]
      split
      · next d hd =>
        refine endSlotReset_replyRoom (s := passTo d s) h ?_
        rw [SlotRecord.inReset, show ((passTo d s).bus.slots.get slot).resetDeadline = some d from hd]
        rfl
      · exact h
    | lockLimitExpiry =>
      simp only [after, exec, execLockLimitExpiry]
      split
      · next d hd => exact expireLock_replyRoom (s := passTo d s) h hd
      · exact h
    | reinitialisationComplete => exact reinitialisation_replyRoom h
    | _ => simp [settling, touched, noneBlocks, masterBlocks, orderedStart] at hs untouched ho

theorem replies_le_of_replyRoom {s : State} (h : ReplyRoom s) : s.command.replies.length ≤ 16 := by
  rw [replyRoom_iff, load] at h
  omega

/-! ### The settings -/

/-- The settings of the Page Map, the Staging Unit and the Upstream Tracker lie in their ranges (R16, R46, R161). -/
def StoreSettings (s : State) : Prop :=
  2 ≤ s.tracker.holdHigh ∧ s.tracker.holdHigh ≤ 16 ∧ s.tracker.holdLow < s.tracker.holdHigh ∧
    1 ≤ s.tracker.readTimeout ∧ s.tracker.readTimeout ≤ 250 ∧ 1 ≤ s.staging.gatherIdle ∧ s.staging.gatherIdle ≤ 32 ∧
    s.pageMap.base.toNat % 0x800000 = 0

/-- The settings of the Lock Unit and of the bridge master lie in their ranges (R161). -/
def BusSettings (s : State) : Prop :=
  5 ≤ s.locks.episodeLimit ∧ s.locks.episodeLimit ≤ 1000 ∧ 1 ≤ s.locks.lockLimit ∧ s.locks.lockLimit ≤ 100 ∧
    1 ≤ s.master.retryLimit ∧ s.master.retryLimit ≤ 4096

theorem settingsInRange_iff (s : State) : SettingsInRange s ↔ StoreSettings s ∧ BusSettings s := by
  unfold SettingsInRange StoreSettings BusSettings
  tauto

theorem storeSettings_congr {s t : State} (h : StoreSettings s) (high : t.tracker.holdHigh = s.tracker.holdHigh)
    (low : t.tracker.holdLow = s.tracker.holdLow) (timeout : t.tracker.readTimeout = s.tracker.readTimeout)
    (idle : t.staging.gatherIdle = s.staging.gatherIdle) (base : t.pageMap.base = s.pageMap.base) : StoreSettings t := by
  rw [StoreSettings, high, low, timeout, idle, base]
  exact h

theorem moveClosed_gatherIdle (s : State) : (moveClosed s).staging.gatherIdle = s.staging.gatherIdle := by
  unfold moveClosed
  split
  · rfl
  · split <;> simp

theorem takesLine_gatherIdle {slot : Slot} {r u v : State} {i : LineIx} {p : Line → Bool}
    (dropped : u = r ∨ ∃ j, (lineAt j r).reclaimable = true ∧ u = setLine j .free r)
    (taken : TakesLine slot i (freeReads p u) v) : v.staging.gatherIdle = r.staging.gatherIdle :=
  fetch_path (P := fun x => x.staging.gatherIdle = r.staging.gatherIdle) rfl dropped taken (fun s h => by simpa using h)
    (fun s j h _ => by simpa [setLine] using h)

theorem move_storeSettings {s t : State} (move : Move s t) (h : StoreSettings s) : StoreSettings t := by
  cases move with
  | same same =>
    obtain ⟨pageMap, staging, tracker⟩ := same
    exact storeSettings_congr h (by rw [tracker]) (by rw [tracker]) (by rw [tracker]) (by rw [staging]) (by rw [pageMap])
  | fetch f readStart p dropped taken tag cur new =>
    have tracker := fetch_tracker dropped taken
    rw [← lowestFreeTag_congr tracker] at tag
    rw [bindFetch_of_tag tag]
    refine storeSettings_congr h ?_ ?_ ?_ ?_ ?_
    · simp [setLine, allocated, tracker]
    · simp [setLine, allocated, tracker]
    · simp [setLine, allocated, tracker]
    · simpa [setLine] using takesLine_gatherIdle dropped taken
    · simpa using congrArg PageMap.base (fetch_pageMap dropped taken)
  | allocate h' purpose =>
    rw [(allocateTag_eq h').2]
    exact storeSettings_congr h rfl rfl rfl rfl rfl
  | moveClosed room =>
    have pageMap : (moveClosed s).pageMap = s.pageMap := by simp
    obtain tracker | ⟨slot, kind, a, tracker⟩ := moveClosed_tracker s
    · exact storeSettings_congr h (by rw [tracker]) (by rw [tracker]) (by rw [tracker]) (moveClosed_gatherIdle s) (by rw [pageMap])
    · rw [joinPosted_tracker] at tracker
      exact storeSettings_congr h (by rw [tracker]) (by rw [tracker]) (by rw [tracker]) (moveClosed_gatherIdle s) (by rw [pageMap])
  | buffering on ahead g range =>
    obtain ⟨h1, h2, h3, h4, h5, h6, h7, h8⟩ := h
    obtain rfl | ⟨low, high⟩ := range
    · exact ⟨h1, h2, h3, h4, h5, h6, h7, h8⟩
    · exact ⟨h1, h2, h3, h4, h5, low, high, h8⟩
  | limits high low timeout hold marks highRange timeoutRange =>
    obtain ⟨h1, h2, h3, h4, h5, h6, h7, h8⟩ := h
    have highs : 2 ≤ high ∧ high ≤ 16 := by omega
    have times : 1 ≤ timeout ∧ timeout ≤ 250 := by omega
    exact ⟨highs.1, highs.2, marks, times.1, times.2, h6, h7, h8⟩
  | window on base range =>
    obtain ⟨h1, h2, h3, h4, h5, h6, h7, h8⟩ := h
    obtain rfl | aligned := range
    · exact ⟨h1, h2, h3, h4, h5, h6, h7, h8⟩
    · exact ⟨h1, h2, h3, h4, h5, h6, h7, aligned⟩
  | reset staging tags queue posted limits base =>
    obtain ⟨h1, h2, h3, h4, h5, h6, h7, h8⟩ := h
    obtain ⟨high, low, timeout⟩ := limits
    have aligned : t.pageMap.base.toNat % 0x800000 = 0 := by
      obtain e | e := base
      · rw [e]
        exact h8
      · rw [e]
        rfl
    rw [StoreSettings, high, low, timeout, staging]
    exact ⟨by decide, by decide, by decide, by decide, by decide, by decide, by decide, aligned⟩
  | close i =>
    refine storeSettings_congr h (by simp) (by simp) (by simp) ?_ (by simp)
    unfold closeLine
    split <;> simp
  | result x state purpose =>
    refine storeSettings_congr h (by simp [retireTag]) (by simp [retireTag]) (by simp [retireTag]) ?_ (by simp)
    unfold lineResult
    (repeat' split) <;> simp [retireTag, setLine]
  | _ => exact storeSettings_congr h rfl rfl rfl rfl rfl

/-- The settings of the Lock Unit and of the bridge master are the same in both states. -/
def BusSettingsKept (s t : State) : Prop :=
  t.locks.episodeLimit = s.locks.episodeLimit ∧ t.locks.lockLimit = s.locks.lockLimit ∧
    t.master.retryLimit = s.master.retryLimit

theorem busSettingsKept_of_eq {s t : State} (locks : t.locks = s.locks) (master : t.master = s.master) :
    BusSettingsKept s t := by
  rw [BusSettingsKept, locks, master]
  exact ⟨rfl, rfl, rfl⟩

theorem busSettingsKept_of_lockKept {s t : State} (h : LockKept s t) (master : t.master.retryLimit = s.master.retryLimit) :
    BusSettingsKept s t := by
  obtain ⟨_, lock, episode⟩ := h
  exact ⟨episode, lock, master⟩

theorem busSettings_of_kept {s t : State} (h : BusSettings s) (kept : BusSettingsKept s t) : BusSettings t := by
  obtain ⟨episode, lock, retry⟩ := kept
  rw [BusSettings, episode, lock, retry]
  exact h

theorem linkLoss_busSettingsKept (training reset : Bool) (s : State) : BusSettingsKept s (linkLoss training reset s) := by
  have master : (lossMaster (lossTracker (lossStaging s))).master.retryLimit = s.master.retryLimit := by
    unfold lossMaster
    split <;> simp [setAccess]
  refine ⟨by simp [linkLoss, lossLocks], by simp [linkLoss, lossLocks], ?_⟩
  simpa [linkLoss] using master

@[simp] theorem setAccess_retryLimit (a : Option Downstream) (s : State) :
    (setAccess a s).master.retryLimit = s.master.retryLimit := rfl

@[simp] theorem presentAccess_retryLimit (a : Downstream) (s : State) :
    (presentAccess a s).master.retryLimit = s.master.retryLimit := rfl

@[simp] theorem releaseMaster_retryLimit (s : State) : (releaseMaster s).master.retryLimit = s.master.retryLimit := by
  unfold releaseMaster
  split <;> simp

theorem startAccess_busSettingsKept (write : Bool) (f : AccessFields) (data : List Byte) (s : State) :
    BusSettingsKept s (startAccess write f data s) := by
  unfold startAccess
  split
  · simp [BusSettingsKept]
  · dsimp only
    split <;> simp [BusSettingsKept]

@[simp] theorem failAccess_retryLimit (a : Downstream) (code : ResultCode) (s : State) :
    (failAccess a code s).master.retryLimit = s.master.retryLimit := by
  unfold failAccess
  dsimp only
  split
  · simp
  · split <;> simp

theorem finishDrain_retryLimit (s : State) : (finishDrain s).master.retryLimit = s.master.retryLimit := by
  unfold finishDrain
  split
  · split <;> simp
  · simp

theorem retryAccess_retryLimit (a : Downstream) (s : State) :
    (retryAccess a s).master.retryLimit = s.master.retryLimit := by
  unfold retryAccess
  dsimp only
  (repeat' split) <;> simp

theorem followAnswer_retryLimit (a : Downstream) (r : Response) (data : List Byte) (s : State) :
    (followAnswer a r data s).master.retryLimit = s.master.retryLimit := by
  cases r with
  | complete =>
    simp only [followAnswer]
    split
    · unfold finishWrite
      dsimp only
      split <;> simp
    · unfold finishRead
      split
      · simp
      · dsimp only
        split <;> simp
  | partly n => simp [followAnswer, continueAccess]
  | retry => exact retryAccess_retryLimit a s
  | abort => exact failAccess_retryLimit a _ s

theorem grant_retryLimit (requests : BitVec 6) (s : State) : (grant requests s).master.retryLimit = s.master.retryLimit := by
  have access : (grantAccess s).master.retryLimit = s.master.retryLimit := by
    unfold grantAccess
    split <;> simp [ownBus]
  unfold grant grantFree
  (repeat' split) <;> simp [access, grantSlot, grantLock, ownBus]

theorem memData_lockKept (p : List Byte) (s : State) : LockKept s (memData p s) := by
  unfold memData
  dsimp only
  split
  · split
    · split
      · exact lockKept_of_moves (finishRequest_moves _ _ _ _)
      · exact lockKept_of_eq (by simp)
    · exact lockKept_of_eq (by simp)
  · exact lockKept_of_eq (by simp)

theorem applyLimits_busSettings {l : LimitFields} (ranges : l.inRanges = true) {s : State} (h : BusSettings s) :
    BusSettings (applyLimits l s) := by
  simp only [LimitFields.inRanges, Bool.and_eq_true] at ranges
  obtain ⟨⟨⟨⟨⟨_, episode⟩, lock⟩, _⟩, _⟩, retry⟩ := ranges
  have episodes := inRange_getD (old := s.locks.episodeLimit) episode
  have locks := inRange_getD (old := s.locks.lockLimit) lock
  have retries := inRange_getD (old := s.master.retryLimit) retry
  simp only [BusSettings] at h
  unfold applyLimits
  dsimp only
  split
  · simp [BusSettings]
    omega
  · simpa [BusSettings] using h

theorem ordered_busSettings {i : Instr} {start : Command → Option (State → State)} (ho : orderedStart i = some start)
    {s : State} (h : BusSettings s) : BusSettings (after i s) := by
  by_cases untouched : Block.locks ∉ touched i ∧ Block.master ∉ touched i
  · obtain ⟨hl, hm⟩ := untouched
    obtain ⟨kept, _⟩ := after_changes i s
    exact busSettings_of_kept h (busSettingsKept_of_eq (kept .locks hl) (kept .master hm))
  rw [after_ordered ho]
  refine runHead_ind h fun e rest c f hh hf => ?_
  obtain ⟨_, parsed, _⟩ := hh
  have begun : BusSettings (beginHead e rest s) := busSettings_of_kept h (busSettingsKept_of_eq (by simp) (by simp))
  have kept : BusSettingsKept (beginHead e rest s) (f (beginHead e rest s)) → BusSettings (f (beginHead e rest s)) :=
    busSettings_of_kept begun
  cases i with
  | setLimits =>
    cases ho
    cases c <;> simp only [reduceCtorEq, Option.some.injEq] at hf
    exact hf ▸ applyLimits_busSettings (parseCommand_inRanges parsed) begun
  | cardRead =>
    cases ho
    cases c <;> simp only [reduceCtorEq, Option.some.injEq] at hf
    exact hf ▸ kept (hf ▸ startAccess_busSettingsKept ..)
  | cardWrite =>
    cases ho
    cases c <;> simp only [reduceCtorEq, Option.some.injEq] at hf
    exact hf ▸ kept (hf ▸ startAccess_busSettingsKept ..)
  | lockOpen =>
    cases ho
    cases c <;> simp only [reduceCtorEq, Option.some.injEq] at hf
    subst hf
    refine kept ?_
    unfold startLockOpen
    split <;> simp [BusSettingsKept]
  | lockClose =>
    cases ho
    cases c <;> simp only [reduceCtorEq, Option.some.injEq] at hf
    subst hf
    refine kept ?_
    unfold startLockClose
    split <;> simp [BusSettingsKept]
  | bridgeReset =>
    cases ho
    cases c <;> simp only [reduceCtorEq, Option.some.injEq] at hf
    subst hf
    simp [BusSettings, startBridgeReset, resetBlocks, LockUnit.reset, BridgeMaster.reset]
  | _ => simp [touched, noneBlocks, masterBlocks, orderedStart] at untouched ho

/-- Every command keeps the settings of the Lock Unit and of the bridge master in their ranges. -/
theorem after_busSettings (i : Instr) (s : State) (h : BusSettings s) : BusSettings (after i s) := by
  cases ho : orderedStart i with
  | some start => exact ordered_busSettings ho h
  | none =>
    obtain ⟨frame, _⟩ := after_changes i s
    by_cases untouched : Block.locks ∉ touched i ∧ Block.master ∉ touched i
    · obtain ⟨hl, hm⟩ := untouched
      exact busSettings_of_kept h (busSettingsKept_of_eq (frame .locks hl) (frame .master hm))
    by_cases lockOnly : settling i = true ∧ Block.master ∉ touched i
    · obtain ⟨hs, hm⟩ := lockOnly
      exact busSettings_of_kept h (busSettingsKept_of_lockKept (settling_lockKept hs s) (by rw [frame .master hm]))
    have lost : ∀ {t : State}, BusSettings t → ∀ a b, BusSettings (linkLoss a b t) := fun ht a b =>
      busSettings_of_kept ht (linkLoss_busSettingsKept a b _)
    have linked : ∀ u, BusSettings (s.setUplink u) := fun _ => h
    have malformed : BusSettings (malformedFrame s) := busSettings_of_kept h (busSettingsKept_of_eq (by simp) (by simp))
    have reset : BusSettings State.reset := by
      unfold BusSettings
      decide
    cases i with
    | powerOnReset => exact reset
    | initReceived p =>
      simp only [after, exec, execInitReceived, receive]
      split
      · refine initFrame_ind _ h (fun _ => h) (fun _ => ?_) fun _ => lost h _ _
        obtain ⟨kept, _⟩ := enterUp_changes (initFields p) s
        exact busSettings_of_kept h (busSettingsKept_of_eq (kept .locks (by simp)) (kept .master (by simp)))
      · exact malformed
    | nakReceived p => exact receive_ind h malformed fun _ => applyNak_ind _ (fun _ _ => linked _) fun _ => lost (linked _) _ _
    | linkResetReceived p => exact receive_ind h malformed fun _ => lost h _ _
    | memDataReceived seq ackSeq p =>
      refine receive_ind h malformed fun _ => sequenced_ind (fun _ _ => linked _) fun u _ => ?_
      have master := (memData_changes p (s.setUplink u)).1 .master (by simp [noneBlocks])
      exact busSettings_of_kept (linked u)
        (busSettingsKept_of_lockKept (memData_lockKept p _) (by rw [master]))
    | lossOfSignal =>
      simp only [after, exec, execLossOfSignal]
      split
      · exact lost h _ _
      · exact h
      · exact h
    | replayDeadlineExpiry =>
      simp only [after, exec, execReplayDeadlineExpiry]
      split
      · exact replayDue_ind (fun _ _ => h) (lost (t := passTo _ s) h _ _)
      · exact h
    | busGrant requests =>
      refine busSettings_of_kept h (busSettingsKept_of_lockKept (settling_lockKept rfl s) ?_)
      simp only [after, exec, execBusGrant]
      split
      · exact grant_retryLimit requests s
      · rfl
    | presentationAnswer r data =>
      refine busSettings_of_kept h (busSettingsKept_of_lockKept (settling_lockKept rfl s) ?_)
      simp only [after, exec, execPresentationAnswer]
      split
      · split
        · exact followAnswer_retryLimit _ r data s
        · rfl
      · rfl
    | noClaim =>
      refine busSettings_of_kept h (busSettingsKept_of_lockKept (settling_lockKept rfl s) ?_)
      simp only [after, exec, execNoClaim]
      split
      · split
        · simp
        · rfl
      · rfl
    | globalDrainComplete =>
      refine busSettings_of_kept h (busSettingsKept_of_lockKept (settling_lockKept rfl s) ?_)
      simp only [after, exec, execGlobalDrainComplete]
      split
      · rw [finishDrain_retryLimit]
        rfl
      · rfl
    | lockLimitExpiry =>
      refine busSettings_of_kept h ?_
      simp only [after, exec, execLockLimitExpiry]
      split
      · unfold expireLock
        dsimp only
        split <;> simp [BusSettingsKept]
      · exact busSettingsKept_of_eq rfl rfl
    | _ => simp [settling, touched, noneBlocks, sendBlocks, orderedStart] at lockOnly untouched ho

end Sys2Proof.Machine

namespace Sys2Proof

open Sys2Proof.Machine

/-- Settles O4: the bounds follow from the moves of the store, of the fault queue and of the link; the room of the reply queue
counts what may still queue a report; the settings only change through values in their ranges. -/
theorem stepKeepsBoundsAndRanges : Obligations.StepKeepsBoundsAndRanges := by
  refine ⟨fun s t ⟨posted, faults, replay, queue⟩ h => ⟨?_, ?_, ?_, ?_⟩, fun s t hs h => ?_, fun s t ordered hs h => ?_,
    fun s t hs h => ?_, fun s t hs h => ?_⟩
  · exact moves_keep (P := fun x => x.tracker.posted.length ≤ 16) (fun _ _ => move_postedBound) (step_moves h) posted
  · exact faultMoves_keep (P := fun x => x.queue.length ≤ 16) (fun _ _ => faultMove_bound) (step_faultMoves h) faults
  · exact linkMoves_keep (P := fun x => x.replay.length ≤ 16) (fun _ _ => linkMove_bound) (step_linkMoves h) replay
  · exact step_keeps (P := QueueBounded) (Q := QueueBounded) (fun _ _ h => h) (fun _ _ h => h) after_queueBounded queue h
  · have room : ReplyRoom t := step_keeps (P := ReplyRoom) (fun _ _ h => h) (fun _ _ h => h) after_replyRoom hs h
    exact ⟨room, replies_le_of_replyRoom room⟩
  · exact (moves_keep (P := fun x => LinesOrdered x ∧ WithinQuotas x)
      (fun _ _ move old => ⟨move_linesOrdered move old.1, move_withinQuotas move old.1 old.2⟩) (step_moves h) ⟨ordered, hs⟩).2
  · obtain ⟨store, bus⟩ := (settingsInRange_iff s).mp hs
    exact (settingsInRange_iff t).mpr ⟨moves_keep (fun _ _ => move_storeSettings) (step_moves h) store,
      step_keeps (P := BusSettings) (fun _ _ h => h) (fun _ _ h => h) after_busSettings bus h⟩
  · exact step_keeps (P := ClaimantsEligible) (fun _ _ h => h) (fun _ _ h => h) after_claimantsEligible hs h

end Sys2Proof
end

section
/-! The bridge is quiet towards the host while the link is not UP: a command that finds the link not UP finds nothing to do,
and one that takes the link from UP discards everything. -/

namespace Sys2Proof.Machine

/-! ### The parts of the quiet -/

/-- No replay and no credits while the link is not UP (R171). -/
def LinkQuiet (u : Uplink) : Prop :=
  u.linkState ≠ .up → u.replay = [] ∧ u.requestCredits = 0 ∧ u.postedCredits = 0

/-- No line holds bytes of a write. -/
def NoWrites (s : State) : Prop := ∀ i, (lineAt i s).isWrite = false

/-- Nothing of the Upstream Tracker is busy (R70). -/
def TrackerQuiet (t : Tracker) : Prop := t.posted = [] ∧ t.requestQueue = [] ∧ ∀ k, (t.tags.get k).state = .free

/-- Neither an episode nor a host lock (R94, R110). -/
def LocksQuiet (u : LockUnit) : Prop := u.episode = none ∧ u.hostLock = .free

/-- No command waits or executes (R166). -/
def CommandsQuiet (c : CommandUnit) : Prop := c.queue = [] ∧ c.executing = none

/-- Nothing of the host's is in progress. -/
def Resting (s : State) : Prop := TrackerQuiet s.tracker ∧ NoWrites s ∧ LocksQuiet s.locks ∧ CommandsQuiet s.command

theorem quietUnlessUp_iff (s : State) :
    QuietUnlessUp s ↔ LinkQuiet s.uplink ∧ (s.uplink.linkState ≠ .up → Resting s) := by
  unfold QuietUnlessUp LinkQuiet Resting TrackerQuiet NoWrites LocksQuiet CommandsQuiet
  tauto

theorem linkMove_quiet {u v : Uplink} (move : LinkMove u v) (h : LinkQuiet u) : LinkQuiet v := by
  intro down
  cases move with
  | same same =>
    obtain ⟨state, _, replay, requests, posts⟩ := same
    rw [replay, requests, posts]
    exact h (state ▸ down)
  | progress k state next replay requests posts =>
    obtain ⟨empty, request, post⟩ := h (state ▸ down)
    rw [replay, requests, posts, empty, List.drop_nil]
    exact ⟨rfl, request, post⟩
  | sent f up state => exact absurd state down
  | granted up state => exact absurd state down
  | lost state replay requests posts => exact ⟨replay, requests, posts⟩
  | trained old new next replay requests posts =>
    rw [replay, requests, posts]
    exact h old
  | entered old new => exact absurd new down

theorem resting_of_eq {s t : State} (h : Resting s) (tracker : t.tracker = s.tracker) (staging : t.staging = s.staging)
    (locks : t.locks = s.locks) (command : t.command = s.command) : Resting t := by
  rw [Resting, tracker, locks, command, NoWrites]
  simp only [lineAt, staging]
  exact h

/-! ### What keeps the lines without writes -/

theorem noWrites_of_kept {s t : State} (h : NoWrites s) (kept : LinesKept s t) : NoWrites t := by
  intro i
  obtain free | ⟨_, _, write, _⟩ := kept i
  · rw [free]
    rfl
  · rw [write]
    exact h i

theorem noWrites_of_lines {s t : State} (h : NoWrites s) (lines : t.staging.lines = s.staging.lines) : NoWrites t :=
  noWrites_of_kept h (linesKept_of_eq lines)

theorem foldl_closeLine_noWrites (order : List LineIx) {s : State} (h : NoWrites s) : NoWrites (order.foldl closeLine s) := by
  induction order generalizing s with
  | nil => exact h
  | cons i order ih => exact ih (noWrites_of_kept h (closeLine_kept i s))

theorem freeReads_noWrites (p : Line → Bool) {s : State} (h : NoWrites s) : NoWrites (freeReads p s) :=
  noWrites_of_kept h (freeReads_kept p s)

theorem startSlotDrain_noWrites (r : Requester) (slot : Slot) {s : State} (h : NoWrites s) :
    NoWrites (startSlotDrain r slot s) := by
  have closed : NoWrites (closeGathering slot s) := foldl_closeLine_noWrites _ h
  cases r <;> exact noWrites_of_lines closed rfl

theorem startGlobalDrain_noWrites {s : State} (h : NoWrites s) : NoWrites (startGlobalDrain s) :=
  noWrites_of_lines (foldl_closeLine_noWrites _ h) rfl

theorem eventDrained_noWrites (slot : Slot) {s : State} (h : NoWrites s) : NoWrites (eventDrained slot s) :=
  noWrites_of_lines h (by simp)

theorem lookAtLine_noWrites (slot : Slot) {s : State} (h : NoWrites s) : NoWrites (lookAtLine slot s) := by
  unfold lookAtLine
  split
  · have begun := freeReads_noWrites (Line.ofSlot slot) (startSlotDrain_noWrites .event slot
      (noWrites_of_lines (t := setEvent slot { eventAt slot s with state := .pending false } s) h (by simp)))
    unfold raiseEvent
    dsimp only
    split
    · exact eventDrained_noWrites slot begun
    · exact begun
  · exact h

theorem releaseMaster_noWrites {s : State} (h : NoWrites s) : NoWrites (releaseMaster (setAccess none s)) :=
  noWrites_of_lines h (by simp)

theorem failAccess_noWrites (a : Downstream) (code : ResultCode) {s : State} (h : NoWrites s) :
    NoWrites (failAccess a code s) := by
  have released := releaseMaster_noWrites h
  unfold failAccess
  dsimp only
  split
  · exact released
  · split
    · exact noWrites_of_lines (freeReads_noWrites (fun l => !l.isFree) released) (by simp [freeAllReads])
    · exact noWrites_of_lines released (by simp)

theorem followAnswer_noWrites (a : Downstream) (r : Response) (data : List Byte) {s : State} (h : NoWrites s) :
    NoWrites (followAnswer a r data s) := by
  have released := releaseMaster_noWrites h
  cases r with
  | complete =>
    simp only [followAnswer]
    split
    · unfold finishWrite
      dsimp only
      split
      · exact released
      · exact noWrites_of_lines (freeReads_noWrites (fun l => !l.isFree) released) (by simp [freeAllReads])
    · have drained := startGlobalDrain_noWrites (noWrites_of_lines (t := releaseMaster s) h (by simp))
      unfold finishRead
      split
      · exact released
      · dsimp only
        split <;> exact noWrites_of_lines drained (by simp)
  | partly n => exact noWrites_of_lines h (by simp [followAnswer, continueAccess])
  | retry =>
    simp only [followAnswer, retryAccess]
    split
    · exact released
    · split
      · exact failAccess_noWrites _ _ h
      · split <;> exact noWrites_of_lines h (by simp)
  | abort => exact failAccess_noWrites a _ h

/-! ### The end of everything -/

theorem linkLoss_resting (training reset : Bool) (s : State) : Resting (linkLoss training reset s) := by
  obtain ⟨frame, _⟩ := takeFault_changes (r := discardReport .linkLoss (writesHeld s) (busyTags s) (commandsHeld s))
    (lossUplink training reset (lossCommand (lossEvents (lossLocks (lossMaster (lossTracker (lossStaging s))))))) rfl
  refine resting_of_eq ⟨?_, fun i => ?_, ?_, ?_⟩ (frame .tracker (by simp)) (frame .staging (by simp)) (frame .locks (by simp))
    (frame .command (by simp))
  · rw [show (lossUplink training reset (lossCommand (lossEvents (lossLocks (lossMaster (lossTracker (lossStaging s))))))).tracker =
      discardTracker s.tracker by simp [lossTracker]]
    exact ⟨rfl, rfl, fun k => retireAll_free _ k⟩
  · have lines : lineAt i (lossUplink training reset
        (lossCommand (lossEvents (lossLocks (lossMaster (lossTracker (lossStaging s))))))) = (lineAt i s).atLoss := by
      simp [lineAt, lossStaging]
    rw [lines]
    cases lineAt i s with
    | fetching b f r stale tag => cases stale <;> rfl
    | _ => rfl
  · simp [LocksQuiet, lossLocks]
  · simp [CommandsQuiet, lossCommand]

/-! ### The commands while the link is not UP -/

theorem commandsQuiet_of_settles {s t : State} (h : CommandsQuiet s.command) (settles : Settles s t) :
    CommandsQuiet t.command := by
  obtain ⟨queue, executing⟩ := h
  obtain ⟨_, kept, _, _, none⟩ := settles
  exact ⟨kept.trans queue, none executing⟩

theorem runHead_of_empty {start : Command → Option (State → State)} {s : State} (h : s.command.queue = []) :
    runHead start s = s := by
  simp [runHead, h]

theorem complete_of_none {result : ResultCode} {body : List Byte} {s : State} (h : s.command.executing = none) :
    complete result body s = s := by
  simp [complete, h]

theorem not_linkUp {s : State} (h : s.uplink.linkState ≠ .up) : linkUp s = false := by
  simpa [linkUp] using h

theorem windowAccess_resting (slot : Slot) (a : CardAddr) (x : Transfer) (lock : Bool) {s : State}
    (down : s.uplink.linkState ≠ .up) (h : Resting s) : Resting (windowAccess slot a x lock s).2 := by
  unfold windowAccess
  dsimp only
  split
  · exact resting_of_eq h (by simp) (by simp) (by simp) (by simp)
  · simp only [not_linkUp down, Bool.not_false, if_true]
    exact resting_of_eq h (by simp) (by simp) (by simp) (by simp)

theorem slotPresentation_resting (slot : Slot) (address : BusAddress) (x : Transfer) (lock : Bool) {s : State}
    (down : s.uplink.linkState ≠ .up) (h : Resting s) : Resting (after (.slotPresentation slot address x lock) s) := by
  have reported : (if lock then s else lockReport slot s) = s := by
    obtain ⟨_, _, ⟨episode, _⟩, _⟩ := h
    rw [lockReport_none episode, ite_self]
  simp only [after, exec, execSlotPresentation, reported]
  split
  · split
    · next a _ =>
      exact resting_of_eq (windowAccess_resting slot a (cutTransfer (blockLength a x) x) lock down h)
        (by simp [claimedPresentation]) (by simp [claimedPresentation]) (by simp [claimedPresentation])
        (by simp [claimedPresentation])
    · exact resting_of_eq h rfl rfl rfl rfl
  · exact h

theorem lookAtLine_resting (slot : Slot) {s : State} (h : Resting s) : Resting (lookAtLine slot s) := by
  obtain ⟨tracker, lines, locks, command⟩ := h
  exact ⟨by simpa using tracker, lookAtLine_noWrites slot lines, by simpa using locks, by simpa using command⟩

theorem moveClosed_of_noWrites {s : State} (h : NoWrites s) : moveClosed s = s := by
  unfold moveClosed
  split
  · rfl
  · next i _ _ =>
    split
    · next state =>
      have write := h i
      rw [state] at write
      cases write
    · rfl

theorem grant_locks {requests : BitVec 6} {s : State} (h : s.locks.hostLock = .free) : (grant requests s).locks = s.locks := by
  have access : (grantAccess s).locks = s.locks := by
    unfold grantAccess
    split <;> simp
  unfold grant grantFree
  simp only [lockAcquiring, h]
  (repeat' split) <;> simp_all [grantSlot]

/-- Every command that begins with the link not UP leaves the bridge at rest. -/
theorem after_resting (i : Instr) {s : State} (down : s.uplink.linkState ≠ .up) (h : Resting s) : Resting (after i s) := by
  have up : linkUp s = true → False := fun up => by simp [not_linkUp down] at up
  obtain ⟨frame, _⟩ := after_changes i s
  obtain ⟨tracker, lines, locks, command⟩ := id h
  cases ho : orderedStart i with
  | some start =>
    rw [after_ordered ho, runHead_of_empty command.1]
    exact h
  | none =>
    by_cases untouched : Block.tracker ∉ touched i ∧ Block.staging ∉ touched i ∧ Block.locks ∉ touched i ∧
        Block.command ∉ touched i
    · obtain ⟨ht, hs, hl, hc⟩ := untouched
      exact resting_of_eq h (frame .tracker ht) (frame .staging hs) (frame .locks hl) (frame .command hc)
    have linesOnly : NoWrites (after i s) → Block.tracker ∉ touched i → Block.locks ∉ touched i → settling i = true →
        Resting (after i s) := by
      intro kept ht hl hs
      refine ⟨?_, kept, ?_, commandsQuiet_of_settles command (after_settles hs s)⟩
      · rw [frame .tracker ht]
        exact tracker
      · rw [frame .locks hl]
        exact locks
    have malformed : Resting (malformedFrame s) := resting_of_eq h (by simp) (by simp) (by simp) (by simp)
    cases i with
    | powerOnReset =>
      have reset : Resting State.reset := by
        unfold Resting TrackerQuiet NoWrites LocksQuiet CommandsQuiet
        decide
      exact resting_of_eq reset rfl rfl rfl rfl
    | initReceived p =>
      simp only [after, exec, execInitReceived, receive]
      split
      · refine initFrame_ind _ h (fun _ => resting_of_eq h rfl rfl rfl rfl) (fun _ => ?_) fun _ => linkLoss_resting _ _ s
        obtain ⟨kept, _⟩ := enterUp_changes (initFields p) s
        exact resting_of_eq h (kept .tracker (by simp)) (kept .staging (by simp)) (kept .locks (by simp))
          (kept .command (by simp))
      · exact malformed
    | nakReceived p => exact receive_ind h malformed fun u => (up u).elim
    | linkResetReceived p => exact receive_ind h malformed fun u => (up u).elim
    | commandReceived seq ackSeq p => exact receive_ind h malformed fun u => (up u).elim
    | memDataReceived seq ackSeq p => exact receive_ind h malformed fun u => (up u).elim
    | lossOfSignal =>
      simp only [after, exec, execLossOfSignal]
      split
      · exact linkLoss_resting _ _ s
      · exact resting_of_eq h rfl rfl rfl rfl
      · exact h
    | replayDeadlineExpiry =>
      simp only [after, exec, execReplayDeadlineExpiry]
      split
      · exact replayDue_ind (fun _ _ => resting_of_eq h rfl rfl rfl rfl) (linkLoss_resting _ _ _)
      · exact h
    | transmitterFree =>
      exact transmitNext_ind (fun _ _ => resting_of_eq h rfl rfl rfl rfl) fun _ u _ => (up u).elim
    | heldEntryTaken =>
      simp only [after, exec, execHeldEntryTaken, oldestHeld, command.1]
      exact h
    | slotPresentation slot address x lock => exact slotPresentation_resting slot address x lock down h
    | lockRelease slot =>
      simp only [after, exec, execLockRelease, lockReport_none locks.1]
      exact h
    | busGrant requests =>
      refine ⟨by rwa [frame .tracker (by simp [touched])], noWrites_of_lines lines (by rw [frame .staging (by simp [touched])]),
        ?_, commandsQuiet_of_settles command (after_settles rfl s)⟩
      simp only [after, exec, execBusGrant]
      split
      · rw [grant_locks locks.2]
        exact locks
      · exact locks
    | presentationAnswer r data =>
      refine linesOnly ?_ (by simp [touched, masterBlocks]) (by simp [touched, masterBlocks]) rfl
      simp only [after, exec, execPresentationAnswer]
      split
      · split
        · exact followAnswer_noWrites _ r data lines
        · exact lines
      · exact lines
    | noClaim =>
      refine linesOnly ?_ (by simp [touched, masterBlocks]) (by simp [touched, masterBlocks]) rfl
      simp only [after, exec, execNoClaim]
      split
      · split
        · exact failAccess_noWrites _ _ lines
        · exact lines
      · exact lines
    | interruptAssertion slot =>
      exact linesOnly (lookAtLine_noWrites slot lines) (by simp [touched]) (by simp [touched]) rfl
    | interruptDeassertion slot =>
      refine linesOnly ?_ (by simp [touched]) (by simp [touched]) rfl
      refine noWrites_of_lines lines ?_
      simp only [after, exec, execInterruptDeassertion]
      split
      · unfold withdrawEvent
        split <;> rfl
      · rfl
    | slotResetEnd slot =>
      simp only [after, exec, execSlotResetEnd]
      split
      · next d _ =>
        have idle : linkUp (passTo d s) = false := not_linkUp down
        have same : Resting (setSlot slot { slotAt slot (passTo d s) with resetDeadline := none } (passTo d s)) :=
          resting_of_eq h rfl rfl rfl rfl
        simp only [endSlotReset, idle, Bool.false_eq_true, if_false]
        exact lookAtLine_resting slot same
      · exact h
    | gatherIdleExpiry line =>
      simp only [after, exec, execGatherIdleExpiry]
      split
      · next state =>
        have write := lines line
        rw [state] at write
        cases write
      · exact h
    | readTimeoutExpiry tag =>
      simp only [after, exec, execReadTimeoutExpiry, tracker.2.2 tag]
      exact h
    | episodeLimitExpiry =>
      simp only [after, exec, execEpisodeLimitExpiry, locks.1]
      exact h
    | lockLimitExpiry =>
      simp only [after, exec, execLockLimitExpiry, locks.2]
      exact h
    | reinitialisationComplete =>
      simp only [after, exec, execReinitialisationComplete, linkUp, beq_eq_false_iff_ne.mpr down]
      split
      · exact h
      · exact h
    | slotDrainComplete slot =>
      have event : Resting (reportEventDrain slot s) := by
        unfold reportEventDrain
        dsimp only
        split
        · exact ⟨by simpa using tracker, eventDrained_noWrites slot (noWrites_of_lines lines rfl), by simpa using locks,
            by simpa using command⟩
        · exact h
      change Resting (reportEpisodeDrain slot (reportEventDrain slot s))
      unfold reportEpisodeDrain
      dsimp only
      split
      · obtain ⟨tracker', lines', locks', command'⟩ := event
        rw [episodeDrained_none (by simpa using locks'.1)]
        exact ⟨tracker', noWrites_of_lines lines' rfl, locks', command'⟩
      · exact event
    | globalDrainComplete =>
      refine linesOnly ?_ (by simp [touched]) (by simp [touched]) rfl
      simp only [after, exec, execGlobalDrainComplete]
      split
      · refine noWrites_of_lines lines ?_
        unfold finishDrain
        (repeat' split) <;> simp
      · exact lines
    | mapBarrierComplete =>
      refine linesOnly ?_ (by simp [touched]) (by simp [touched]) rfl
      simp only [after, exec, execMapBarrierComplete]
      split
      · exact noWrites_of_lines lines (by simp)
      · exact lines
    | closedLineMove =>
      simp only [after, exec, execClosedLineMove]
      split
      · rw [moveClosed_of_noWrites lines]
        exact h
      · exact h
    | exclEndPlaced =>
      simp only [after, exec, execExclEndPlaced, locks.1]
      exact h
    | exclBeginAllocation =>
      simp only [after, exec, execExclBeginAllocation, locks.1]
      exact h
    | _ => simp [touched, orderedStart] at untouched ho

/-! ### The commands while the link is UP -/

/-- The link is UP, or the bridge is at rest. -/
def UpOrResting (s : State) : Prop := s.uplink.linkState = .up ∨ Resting s

theorem upOrResting_of_uplink {s t : State} (up : s.uplink.linkState = .up) (h : t.uplink = s.uplink) : UpOrResting t := by
  left
  rw [h]
  exact up

theorem upOrResting_of_sameLink {s t : State} (up : s.uplink.linkState = .up) (h : SameLink s.uplink t.uplink) :
    UpOrResting t :=
  .inl (h.1.trans up)

theorem startBridgeReset_up {s : State} (up : s.uplink.linkState = .up) : (startBridgeReset s).uplink.linkState = .up := by
  have returned : ∀ n t, (returnCredits n t).uplink.linkState = t.uplink.linkState := by
    intro n
    induction n with
    | zero => exact fun t => rfl
    | succ n ih => exact fun t => (ih _).trans (returnCredit_sameLink t).1
  simp [startBridgeReset, resetBlocks, returned, up]

theorem answer_up (f : CommandFrame) (v : Verdict) {s : State} (up : s.uplink.linkState = .up) :
    (answer f v s).uplink.linkState = .up := by
  have answered : ∀ c b, (answerArrival f c b s).uplink.linkState = .up := fun c b =>
    (returnCredit_sameLink _).1.trans (by simpa using up)
  cases v with
  | refused code => exact answered _ _
  | eventAck slot seq =>
    simp only [answer, runEventAck]
    split
    · simpa using answered .ok []
    · exact answered _ _
  | statusQuery x => exact answered _ _
  | ordered => exact up

theorem arrive_up (p : List Byte) {s : State} (up : s.uplink.linkState = .up) : (arrive p s).uplink.linkState = .up := by
  unfold arrive decideArrival
  split
  · exact (returnCredit_sameLink s).1.trans up
  · split
    · simpa using up
    · split
      · simpa using up
      · split
        · exact answer_up _ _ up
        · simpa using up

theorem takeHeld_up (before after : List CommandEntry) (e : CommandEntry) {s : State} (up : s.uplink.linkState = .up) :
    (takeHeld before e after s).uplink.linkState = .up := by
  unfold takeHeld
  dsimp only
  split
  · simpa using up
  · exact answer_up _ _ up

theorem transmit_linkState (f : UpFrame) (s : State) : (transmit f s).uplink.linkState = s.uplink.linkState := rfl

theorem serveClass_up (c : TxClass) {s : State} (up : s.uplink.linkState = .up) :
    (serveClass c s).uplink.linkState = .up := by
  cases c with
  | reply =>
    change (serveReply (setClass .reply s)).uplink.linkState = .up
    unfold serveReply
    (repeat' split) <;> exact up
  | fault =>
    change (serveFault (setClass .fault s)).uplink.linkState = .up
    unfold serveFault
    split <;> simp [setClass, transmit_linkState, up]
  | posted =>
    change (servePosted (setClass .posted s)).uplink.linkState = .up
    unfold servePosted
    split <;> simp [setClass, transmit_linkState, up]
  | request =>
    change (serveRequest (setClass .request s)).uplink.linkState = .up
    unfold serveRequest
    split
    · dsimp only
      split <;> simp [setClass, transmit_linkState, up]
    · exact up

/-- Every command that begins with the link UP leaves it UP or the bridge at rest. -/
theorem after_upOrResting (i : Instr) {s : State} (up : s.uplink.linkState = .up) : UpOrResting (after i s) := by
  have same : UpOrResting s := .inl up
  have linked : ∀ u : Uplink, u.linkState = s.uplink.linkState → UpOrResting (s.setUplink u) := fun u h => .inl (h.trans up)
  have lost : ∀ a b t, UpOrResting (linkLoss a b t) := fun a b t => .inr (linkLoss_resting a b t)
  have malformed : UpOrResting (malformedFrame s) := by
    unfold malformedFrame gap
    (repeat' split) <;> exact .inl up
  by_cases untouched : Block.uplink ∉ touched i
  · exact upOrResting_of_uplink up ((after_changes i s).1 .uplink untouched)
  cases ho : orderedStart i with
  | some start =>
    rw [after_ordered ho]
    refine runHead_ind same fun e rest c f _ hf => ?_
    have begun : (beginHead e rest s).uplink.linkState = .up :=
      (returnCredit_sameLink _).1.trans (by simpa using up)
    by_cases reset : i = .bridgeReset
    · subst reset
      cases ho
      cases c <;> simp only [reduceCtorEq, Option.some.injEq] at hf
      exact .inl (hf ▸ startBridgeReset_up begun)
    · exact upOrResting_of_uplink begun (ordered_settles ho reset hf _).1
  | none =>
    have acked : ∀ n, UpOrResting (applyAck n s) := by
      intro n
      unfold applyAck
      split <;> exact .inl up
    cases i with
    | powerOnReset =>
      have reset : Resting State.reset := by
        unfold Resting TrackerQuiet NoWrites LocksQuiet CommandsQuiet
        decide
      exact .inr (resting_of_eq reset rfl rfl rfl rfl)
    | initReceived p =>
      simp only [after, exec, execInitReceived, receive]
      split
      · exact initFrame_ind _ same (fun down => by simp [up] at down) (fun down => by simp [up] at down) fun _ => lost _ _ _
      · exact malformed
    | ackReceived p => exact receive_ind same malformed fun _ => acked _
    | nakReceived p => exact receive_ind same malformed fun _ => applyNak_ind _ linked fun _ => lost _ _ _
    | linkResetReceived p => exact receive_ind same malformed fun _ => lost _ _ _
    | creditReceived p =>
      refine receive_ind same malformed fun _ => ?_
      unfold grantCredits
      dsimp only
      split <;> exact .inl (by simpa using up)
    | badFrameReceived p =>
      simp only [after, exec, execBadFrameReceived]
      split
      · exact same
      · unfold crcFailed malformedFrame gap
        (repeat' split) <;> exact .inl up
      · exact malformed
    | commandReceived seq ackSeq p =>
      exact receive_ind same malformed fun _ => sequenced_ind linked fun u state => .inl (arrive_up p (state.trans up))
    | memDataReceived seq ackSeq p =>
      refine receive_ind same malformed fun _ => sequenced_ind linked fun u state => ?_
      obtain ⟨uplink, _⟩ := memData_settles p (s.setUplink u)
      exact upOrResting_of_uplink (s := s.setUplink u) (state.trans up) uplink
    | initIntervalExpiry =>
      simp only [after, exec, execInitIntervalExpiry]
      (repeat' split) <;> exact .inl up
    | trainingDeadlineExpiry =>
      simp only [after, exec, execTrainingDeadlineExpiry, up]
      exact same
    | ackDeadlineExpiry =>
      simp only [after, exec, execAckDeadlineExpiry]
      split <;> exact .inl up
    | lossOfSignal =>
      simp only [after, exec, execLossOfSignal, up]
      exact lost _ _ _
    | replayDeadlineExpiry =>
      simp only [after, exec, execReplayDeadlineExpiry]
      split
      · exact replayDue_ind (fun _ state => .inl (state.trans up)) (lost _ _ _)
      · exact same
    | transmitterFree =>
      exact transmitNext_ind (fun u link => .inl (link.1.trans up)) fun c _ _ => .inl (serveClass_up c up)
    | heldEntryTaken =>
      simp only [after, exec, execHeldEntryTaken]
      split
      · split
        · exact .inl (takeHeld_up _ _ _ up)
        · exact same
      · exact same
    | _ => simp [touched, orderedStart, noneBlocks, masterBlocks] at untouched ho

/-- The bridge is at rest while the link is not UP. -/
def RestsUnlessUp (s : State) : Prop := s.uplink.linkState ≠ .up → Resting s

/-- Every command keeps the bridge quiet while the link is not UP. -/
theorem after_restsUnlessUp (i : Instr) (s : State) (h : RestsUnlessUp s) : RestsUnlessUp (after i s) := by
  intro down
  by_cases up : s.uplink.linkState = .up
  · exact (after_upOrResting i up).resolve_left down
  · exact after_resting i up (h up)

end Sys2Proof.Machine

namespace Sys2Proof

open Sys2Proof.Machine

/-- Settles O9: the moves of the link keep its part, and each command the rest, by whether it begins with the link UP. -/
theorem stepKeepsQuietUnlessUp : Obligations.StepKeepsQuietUnlessUp := by
  intro s t hs h
  obtain ⟨link, rest⟩ := (quietUnlessUp_iff s).mp hs
  exact (quietUnlessUp_iff t).mpr ⟨linkMoves_keep (fun _ _ => linkMove_quiet) (step_linkMoves h) link,
    step_keeps (P := RestsUnlessUp) (Q := RestsUnlessUp) (fun _ _ h => h) (fun _ _ h => h) after_restsUnlessUp rest h⟩

end Sys2Proof
end

section
/-! Reset, and the link: its states, its timers, acknowledgement and credits. -/

namespace Sys2Proof.Machine

/-! ### A frame of the right length -/

theorem receive_fits {k : HostKind} {p : List Byte} {rule : State → State} {s : State} (h : lengthFits k p.length = true) :
    receive k p rule s = rule s := by
  rw [receive, if_pos h]

theorem whenUp_of_up {rule : State → State} {s : State} (h : s.uplink.linkState = .up) : whenUp rule s = rule s := by
  simp [whenUp, linkUp, h]

/-! ### Entry to UP -/

theorem eventAt_offerEvent (x slot : Slot) (s : State) :
    eventAt x (offerEvent slot s) = if slot = x then { eventAt x s with state := .sent false } else eventAt x s := by
  simp only [eventAt, offerEvent, State.setEvents_events, Table.get_set]
  split
  · next h => rw [h]
  · rfl

/-- The records that are PENDING and drained, of the slots listed (R137). -/
def offerable (slots : List Slot) (s : State) : List Slot :=
  slots.filter (fun slot => (eventAt slot s).state = .pending true)

/-- Each drained PENDING record of the slots listed is offered, in the order of the list; `offerPending` is this on all slots. -/
def offerAll (slots : List Slot) (s : State) : State :=
  slots.foldl (fun t slot => if (eventAt slot t).state = .pending true then offerEvent slot t else t) s

theorem offerPending_eq (s : State) : offerPending s = offerAll allSlots s := rfl

theorem offerAll_cons (slot : Slot) (slots : List Slot) (s : State) :
    offerAll (slot :: slots) s =
      offerAll slots (if (eventAt slot s).state = .pending true then offerEvent slot s else s) := rfl

theorem offerAll_records (slots : List Slot) (hn : slots.Nodup) (s : State) (x : Slot) :
    eventAt x (offerAll slots s) =
      if x ∈ slots ∧ (eventAt x s).state = .pending true then { eventAt x s with state := .sent false } else eventAt x s := by
  induction slots generalizing s with
  | nil => simp [offerAll]
  | cons slot slots ih =>
    obtain ⟨fresh, hn⟩ := List.nodup_cons.mp hn
    rw [offerAll_cons, ih hn]
    by_cases hx : slot = x
    · subst hx
      by_cases ready : (eventAt slot s).state = .pending true <;> simp [fresh, ready, eventAt_offerEvent]
    · have same : eventAt x (if (eventAt slot s).state = .pending true then offerEvent slot s else s) = eventAt x s := by
        split
        · rw [eventAt_offerEvent, if_neg hx]
        · rfl
      simp [same, Ne.symm hx]

theorem offerAll_offered (slots : List Slot) (hn : slots.Nodup) (s : State) :
    (offerAll slots s).events.offered =
      s.events.offered ++ (offerable slots s).map (fun x => ⟨x, (eventAt x s).seq, (eventAt x s).resend⟩) := by
  induction slots generalizing s with
  | nil => simp [offerAll, offerable]
  | cons slot slots ih =>
    obtain ⟨fresh, hn⟩ := List.nodup_cons.mp hn
    rw [offerAll_cons]
    by_cases ready : (eventAt slot s).state = .pending true
    · have others : ∀ x ∈ slots, eventAt x (offerEvent slot s) = eventAt x s := fun x hx => by
        rw [eventAt_offerEvent, if_neg (fun e : slot = x => fresh (e ▸ hx))]
      have rest : offerable slots (offerEvent slot s) = offerable slots s :=
        List.filter_congr fun x hx => by rw [others x hx]
      have same : (offerable slots s).map (fun x => (⟨x, (eventAt x (offerEvent slot s)).seq,
          (eventAt x (offerEvent slot s)).resend⟩ : EventFrame)) =
          (offerable slots s).map (fun x => ⟨x, (eventAt x s).seq, (eventAt x s).resend⟩) :=
        List.map_congr_left fun x hx => by rw [others x (List.mem_of_mem_filter hx)]
      rw [if_pos ready, ih hn, rest, same]
      simp [offerable, offerEvent, ready]
    · rw [if_neg ready, ih hn]
      simp [offerable, ready]

/-- Offering leaves the levels and the Uplink Port. -/
theorem offerAll_rest (slots : List Slot) (s : State) :
    (offerAll slots s).events.lines = s.events.lines ∧ (offerAll slots s).uplink = s.uplink := by
  induction slots generalizing s with
  | nil => exact ⟨rfl, rfl⟩
  | cons slot slots ih =>
    obtain ⟨lines, uplink⟩ := ih (if (eventAt slot s).state = .pending true then offerEvent slot s else s)
    rw [offerAll_cons, lines, uplink]
    split <;> exact ⟨rfl, rfl⟩

/-! ### Credits -/

theorem addCredits_toNat (count : BitVec 8) (increment : Byte) :
    (addCredits count increment).toNat = min 255 (count.toNat + increment.toNat) := by
  unfold addCredits
  split
  · rw [BitVec.toNat_add]
    omega
  · rw [show (255 : BitVec 8).toNat = 255 from rfl]
    omega

/-! ### Faults without a slot -/

theorem autofences_no_slot {r : FaultReport} (h : r.slot = none) (s : State) : autofences r s = false := by
  simp [autofences, h]

theorem faultUnit_ext {f g : FaultUnit} (queue : f.queue = g.queue) (dropped : f.dropped = g.dropped)
    (nextSeq : f.nextSeq = g.nextSeq) (summaries : f.summaries = g.summaries) : f = g := by
  cases f
  cases g
  simp_all

/-- A fault that carries no slot, with room in the queue, at the Fault Unit (R142, R144). -/
theorem takeFault_no_slot_queue {r : FaultReport} {s : State} (h : r.slot = none) (room : s.faults.queue.length < 16) :
    (takeFault r s).faults =
      { s.faults with
        queue := s.faults.queue ++
          [{ seq := s.faults.nextSeq, report := r, fenced := false, lostBefore := s.faults.dropped }]
        dropped := 0
        nextSeq := s.faults.nextSeq + 1 } := by
  obtain ⟨queue, dropped, nextSeq⟩ := takeFault_queue r s room
  obtain ⟨_, _, summaries⟩ := takeFault_no_slot r s h
  rw [autofences_no_slot h] at queue
  exact faultUnit_ext queue dropped nextSeq summaries

/-- The same with the queue full (R142, R144). -/
theorem takeFault_no_slot_full {r : FaultReport} {s : State} (h : r.slot = none) (full : 16 ≤ s.faults.queue.length) :
    (takeFault r s).faults = { s.faults with dropped := satInc s.faults.dropped } := by
  obtain ⟨queue, dropped, nextSeq⟩ := takeFault_full r s full
  obtain ⟨_, _, summaries⟩ := takeFault_no_slot r s h
  exact faultUnit_ext queue dropped nextSeq summaries

/-! ### Bad frames -/

/-- A malformed frame calls for a NAK while UP, unless one has been sent (R172, R173). -/
theorem malformedFrame_uplink (s : State) : (malformedFrame s).uplink =
    { s.uplink with nakDue := s.uplink.nakDue || (s.uplink.linkState == .up && !s.uplink.nakSent) } := by
  unfold malformedFrame gap linkUp
  cases up : s.uplink.linkState == .up <;> cases sent : s.uplink.nakSent <;> simp

/-! ### A replay -/

theorem beginReplay_spec {f : SentFrame} {fs : List SentFrame} {s : State} (h : s.uplink.replay = f :: fs) :
    (beginReplay s).uplink =
      { s.uplink with
        replayCount := s.uplink.replayCount + 1
        replays := satInc s.uplink.replays
        replayNext := some f.seq
        replayDeadline := some (s.now + 100) } := by
  simp [beginReplay, oldest, h, Config.replayTime, Config.us]

theorem replayDue_begins {s : State} (h : s.uplink.replayCount < 4) : replayDue s = beginReplay s := by
  simp [replayDue, Config.replayLimit, h]

theorem replayDue_loses {s : State} (h : 4 ≤ s.uplink.replayCount) : replayDue s = linkLoss false true s := by
  simp [replayDue, Config.replayLimit, Nat.not_lt.mpr h]

theorem oldest_cons {u : Uplink} {f : SentFrame} {fs : List SentFrame} (h : u.replay = f :: fs) : oldest u = f.seq := by
  simp [oldest, h]

theorem acknowledged_inside {u : Uplink} {n : SeqNo} {f : SentFrame} {fs : List SentFrame} {k : Nat}
    (h : u.replay = f :: fs) (hk : (n - f.seq).toNat = k) (inside : k ≤ fs.length) : acknowledged u n = k + 1 := by
  rw [acknowledged, oldest_cons h, hk, if_pos (by simpa [h] using Nat.lt_succ_of_le inside)]

/-- Where an acknowledgement leaves the frame that a replay has come to (R176). -/
def replayNextAfter (f : SentFrame) (left : List SentFrame) (k : Nat) (next : Option SeqNo) : Option SeqNo :=
  match next, left with
  | some m, g :: _ => some (if (m - f.seq).toNat ≤ k then g.seq else m)
  | _, _ => none

theorem progress_spec {f : SentFrame} {fs : List SentFrame} {k : Nat} {s : State} (h : s.uplink.replay = f :: fs) :
    (progress (k + 1) s).uplink =
      { s.uplink with
        replay := fs.drop k
        replayCount := 0
        replayDeadline := if fs.drop k = [] then none else some (s.now + 100)
        replayNext := replayNextAfter f (fs.drop k) k s.uplink.replayNext } := by
  simp only [progress, h, List.drop_succ_cons, Config.replayTime, Config.us, oldest_cons h, State.setUplink_uplink,
    replayNextAfter]
  cases s.uplink.replayNext with
  | none => rfl
  | some m =>
    cases fs.drop k with
    | nil => rfl
    | cons g gs =>
      simp only [oldest, Nat.lt_succ_iff, reduceCtorEq, if_false]
      split <;> rfl

theorem applyAck_inside {n : SeqNo} {f : SentFrame} {fs : List SentFrame} {k : Nat} {s : State}
    (h : s.uplink.replay = f :: fs) (hk : (n - f.seq).toNat = k) (inside : k ≤ fs.length) :
    applyAck n s = progress (k + 1) s := by
  rw [applyAck, acknowledged_inside h hk inside, if_neg (Nat.succ_ne_zero k)]

theorem applyAck_outside {n : SeqNo} {s : State} (h : s.uplink.replay.length ≤ (n - oldest s.uplink).toNat) :
    applyAck n s = s := by
  rw [applyAck, if_pos (acknowledged_outside h)]

theorem applyNak_inside {n : SeqNo} {f : SentFrame} {fs : List SentFrame} {k : Nat} {s : State}
    (h : s.uplink.replay = f :: fs) (hk : (n - f.seq).toNat = k) (inside : k ≤ fs.length) :
    applyNak n s = replayIfAny (progress (k + 1) s) := by
  rw [applyNak, acknowledged_inside h hk inside, if_neg (Nat.succ_ne_zero k)]

theorem applyNak_last {n : SeqNo} {s : State} (h : n + 1 = oldest s.uplink) (bound : s.uplink.replay.length ≤ 16) :
    applyNak n s = replayIfAny s := by
  have called : isLastAcknowledged s.uplink n = true := beq_iff_eq.mpr h
  rw [applyNak, if_pos (acknowledged_outside (lastAcknowledged_outside h bound)), if_pos called]

theorem applyNak_outside {n : SeqNo} {s : State} (h : s.uplink.replay.length ≤ (n - oldest s.uplink).toNat)
    (other : n + 1 ≠ oldest s.uplink) : applyNak n s = s := by
  have called : ¬ isLastAcknowledged s.uplink n = true := fun last => other (beq_iff_eq.mp last)
  rw [applyNak, if_pos (acknowledged_outside h), if_neg called]

theorem replayIfAny_empty {s : State} (h : s.uplink.replay = []) : replayIfAny s = s := by
  rw [replayIfAny, if_pos h]

theorem replayIfAny_begins {f : SentFrame} {fs : List SentFrame} {s : State} (h : s.uplink.replay = f :: fs)
    (count : s.uplink.replayCount < 4) : replayIfAny s = beginReplay s := by
  rw [replayIfAny, if_neg (by simp [h]), replayDue_begins count]

/-! ### Link losses -/

/-- Each cause of a link loss, while UP, is a link loss at its time (R171). -/
theorem lossCause_after {c : Instr} {training reset : Bool} {time : Time} {s : State} (h : LossCause c training reset time s)
    (up : s.uplink.linkState = .up) : exec c s = .next (linkLoss training reset (s.setNow time)) := by
  obtain ⟨rfl, rfl, rfl, rfl⟩ | ⟨rfl, rfl, rfl, rfl⟩ | ⟨p, length, rfl, rfl, rfl, rfl⟩ | ⟨d, rfl, due, count, rfl, rfl, rfl⟩ |
    ⟨p, length, rfl, some, bound, last, count, rfl, rfl, rfl⟩ := h
  · simp only [exec, execLossOfSignal, up]
    rfl
  · exact congrArg Host.Outcome.next ((receive_fits rfl).trans (whenUp_of_up up))
  · refine congrArg Host.Outcome.next ((receive_fits (by simp [lengthFits, length])).trans ?_)
    simp only [initFrame, up]
    rfl
  · simp only [exec, execReplayDeadlineExpiry, due]
    rw [replayDue_loses (s := passTo d s) count]
    rfl
  · refine congrArg Host.Outcome.next ((receive_fits (by simp [lengthFits, length])).trans ((whenUp_of_up up).trans ?_))
    rw [applyNak_last last bound, replayIfAny, if_neg some, replayDue_loses count]
    rfl

theorem dropBus_bus (s : State) : (dropBus s).bus = masterReleased s.bus := by
  unfold dropBus masterReleased
  split <;> simp

theorem lossMaster_idle {s : State} (h : masterPresenting s = false) :
    (lossMaster s).master = { s.master with access := none } ∧ (lossMaster s).bus = masterReleased s.bus := by
  simp [lossMaster, h, dropBus_bus, setAccess]

theorem lossMaster_presenting {s : State} (h : masterPresenting s = true) : lossMaster s = s := by
  simp [lossMaster, h]

section

variable (training reset : Bool) (s : State)

theorem linkLoss_staging : (linkLoss training reset s).staging = (lossStaging s).staging := by
  rw [linkLoss, (takeFault_no_slot _ _ rfl).2.1]
  simp

theorem linkLoss_tracker : (linkLoss training reset s).tracker = discardTracker s.tracker := by
  simp [linkLoss, lossTracker]

theorem linkLoss_locks : (linkLoss training reset s).locks = (lossLocks s).locks := by
  simp [linkLoss, lossLocks]

theorem linkLoss_events : (linkLoss training reset s).events = s.events.atLoss := by
  simp [linkLoss, lossEvents]

/-- A presentation of the bridge master goes on; else the record is removed and the bus released (R94, R110, R124). -/
theorem linkLoss_master_bus : (linkLoss training reset s).master = (lossMaster s).master ∧
    (linkLoss training reset s).bus = (lossMaster s).bus := by
  have master : (lossMaster (lossTracker (lossStaging s))).master = (lossMaster s).master ∧
      (lossMaster (lossTracker (lossStaging s))).bus = (lossMaster s).bus := by
    have same : masterPresenting (lossTracker (lossStaging s)) = masterPresenting s := by simp [masterPresenting]
    cases presenting : masterPresenting s with
    | false =>
      obtain ⟨master, bus⟩ := lossMaster_idle presenting
      obtain ⟨master', bus'⟩ := lossMaster_idle (same.trans presenting)
      simp [master, bus, master', bus']
    | true => simp [lossMaster_presenting presenting, lossMaster_presenting (same.trans presenting)]
  rw [linkLoss, (takeFault_no_slot _ _ rfl).1]
  simpa using master

theorem lineAt_linkLoss (i : LineIx) : lineAt i (linkLoss training reset s) = (lineAt i s).atLoss := by
  rw [lineAt, linkLoss_staging]
  simp [lineAt, lossStaging]

theorem eventAt_linkLoss (slot : Slot) : eventAt slot (linkLoss training reset s) = (eventAt slot s).atLoss := by
  rw [eventAt, linkLoss_events]
  simp [eventAt, EventUnit.atLoss]

/-- The failed lines enter the LRU order in some order (R47; log 7). -/
theorem lossStaging_lru :
    (lossStaging s).staging.lru.Perm (allLines.filter (fun i => (lineAt i s).atLoss.reclaimable)) := by
  obtain ⟨_, _, nodup, members⟩ := lossStaging_linesOrdered s
  refine (List.perm_ext_iff_of_nodup nodup (allLines_nodup.filter _)).mpr fun i => ?_
  rw [members, List.mem_filter]
  simp [mem_allLines, lineAt, lossStaging]

/-- The slot records and the rotation stay (R171). -/
theorem lossMaster_slots : (lossMaster s).bus.slots = s.bus.slots ∧ (lossMaster s).bus.pointer = s.bus.pointer := by
  cases presenting : masterPresenting s with
  | false =>
    rw [(lossMaster_idle presenting).2, masterReleased]
    split <;> exact ⟨rfl, rfl⟩
  | true => simp [lossMaster_presenting presenting]

end

end Sys2Proof.Machine

namespace Sys2Proof

open Sys2Proof.Machine

/-- Settles O1: by the definition of the step. -/
theorem stepRunsFrontCommand : Obligations.StepRunsFrontCommand := by
  intro c rest s h
  rw [step, h]

/-- Settles O2: the tables at reset are filled with one value, and the rest is written out. -/
theorem resetValues : Obligations.ResetValues := by
  have slots : ∀ i, State.reset.bus.slots.get i = ⟨false, false, none, true, 0, 0⟩ := fun i => by
    simp [State.reset, SlotBus.reset, SlotRecord.reset]
  refine ⟨⟨rfl, rfl, fun i => ?_⟩, ⟨fun i => ?_, rfl, rfl, rfl, rfl, rfl, fun i => ?_, rfl, rfl⟩,
    ⟨fun i => ?_, rfl, rfl, rfl, rfl, rfl, rfl, rfl⟩, ⟨slots, rfl, rfl, rfl, fun i => ?_⟩,
    ⟨rfl, rfl, rfl, rfl, rfl, rfl, rfl⟩, ⟨fun i => ?_, rfl⟩, ⟨rfl, rfl, rfl, fun i => ?_⟩, ⟨rfl, rfl, rfl, rfl⟩, ?_⟩
  · simp [State.reset, PageMap.reset, MapEntry.reset]
  · simp [lineAt, State.reset, Staging.reset]
  · simp [State.reset, Staging.reset]
  · simp [State.reset, Tracker.reset]
  · simp [rstPin, eligible, slots]
  · simp [eventAt, State.reset, EventUnit.reset, EventRecord.reset]
  · simp [State.reset, FaultUnit.reset]
  · exact ⟨rfl, rfl, rfl, rfl, rfl, rfl, rfl, rfl, rfl, rfl, rfl, rfl, rfl, rfl, rfl, rfl, rfl, rfl, rfl, rfl, rfl, rfl⟩

/-- Settles O3: every queue is empty, every line and every tag FREE. -/
theorem invariantsHoldAtReset : Obligations.InvariantsHoldAtReset := by
  have lines : ∀ i, lineAt i State.reset = .free := fun i => by simp [lineAt, State.reset, Staging.reset]
  have tags : ∀ i, (State.reset.tracker.tags.get i).state = .free := fun i => by simp [State.reset, Tracker.reset]
  have events : ∀ i, (eventAt i State.reset).state = .idle := fun i => by
    simp [eventAt, State.reset, EventUnit.reset, EventRecord.reset]
  refine ⟨?_, trivial, trivial, ⟨trivial, fun _ => rfl⟩, fun h => ?_, ⟨List.nodup_nil, fun i => ?_⟩,
    ⟨List.nodup_nil, fun i => ?_, List.nodup_nil, fun i => ?_⟩, fun _ => ?_, ⟨List.nodup_nil, fun slot => ?_, fun f h => ?_⟩,
    ?_, ?_, ?_, fun x h => ?_, ⟨fun i b f r stale g h => ?_, fun k q i h => ?_⟩, fun i b h => ?_, fun i j slot a _ h => ?_⟩
  · unfold WithinBounds
    decide
  · cases h
  · simp [tags, show State.reset.tracker.requestQueue = [] from rfl]
  · simp [lines, show State.reset.staging.closedOrder = [] from rfl, Line.isClosed]
  · simp [lines, show State.reset.staging.lru = [] from rfl, Line.reclaimable]
  · exact ⟨rfl, rfl, rfl, rfl, rfl, tags, fun i => by rw [lines]; rfl, rfl, rfl, rfl, rfl⟩
  · simp [events, show State.reset.events.offered = [] from rfl]
  · cases h
  · unfold SettingsInRange
    decide
  · unfold ReplyRoom
    decide
  · unfold WithinQuotas
    decide
  · cases h
  · rw [lines] at h
    cases h
  · simp [BusyWith, tags] at h
  · rw [lines] at h
    cases h
  · rw [lines] at h
    cases h

/-- Settles O11: by the definition of the power-on state. -/
theorem powerOnResetsEveryBlock : Obligations.PowerOnResetsEveryBlock := fun s =>
  ⟨powerOn s, rfl, rfl, rfl, rfl, rfl, rfl, rfl, rfl, rfl, rfl, rfl, rfl, rfl⟩

/-- Settles O12: DOWN and TRAINING each have one rule for a valid INIT. -/
theorem initAdvancesLink : Obligations.InitAdvancesLink := by
  have fits : ∀ (p : List Byte) (s : State), p.length = 12 →
      exec (.initReceived p) s = .next (initFrame (initFields p) s) := fun p s length =>
    congrArg Host.Outcome.next (receive_fits (by simp [lengthFits, length]))
  refine ⟨fun p s length down revision => ⟨enterTraining s, ?_, by simp [onlyChanges_iff], rfl⟩,
    fun p s length training revision heard => ⟨enterUp (initFields p) s, ?_, enterUp_changes _ s, ?_⟩⟩
  · have admitted : Config.maxPayload ≤ (initFields p).maxPayload := revision
    rw [fits p s length]
    simp only [initFrame, down, if_pos admitted]
  · have admitted : Config.maxPayload ≤ (initFields p).maxPayload ∧ (initFields p).heard = true := ⟨revision, heard⟩
    rw [fits p s length]
    simp only [initFrame, training, if_pos admitted]
  · unfold enterUp
    rw [offerPending_eq]
    generalize hr : s.setUplink _ = r
    obtain ⟨lines, uplink⟩ := offerAll_rest allSlots r
    have records := offerAll_records allSlots allSlots_nodup r
    have offered := offerAll_offered allSlots allSlots_nodup r
    rw [lines, uplink, offered]
    subst hr
    refine ⟨⟨rfl, rfl, rfl, rfl, rfl, rfl, rfl, rfl, rfl, rfl, rfl, rfl⟩, fun slot => ?_, rfl, rfl⟩
    rw [records slot]
    simp only [mem_allSlots, true_and]
    rfl

/-- Settles O17: by the result of the checks on the bytes. -/
theorem badFrameIsCountedAndNaked : Obligations.BadFrameIsCountedAndNaked := by
  intro b s bad
  refine ⟨after (.badFrameReceived b) s, exec_eq_next _ s, after_changes (.badFrameReceived b) s, ?_⟩
  simp only [after, exec, execBadFrameReceived]
  cases check : checkFrame b with
  | good => exact absurd check bad
  | crcFailed =>
    rw [crcFailed, malformedFrame_uplink]
    rfl
  | malformed =>
    rw [malformedFrame_uplink]
    rfl

/-- Settles O16: each count is a sum that stops at 255, and the fault is taken where a sum does not fit. -/
theorem creditFrameGrantsCredits : Obligations.CreditFrameGrantsCredits := by
  intro c r q x s up
  have run : exec (.creditReceived [c, r, q, x]) s = .next (grantCredits r q s) :=
    congrArg Host.Outcome.next ((receive_fits rfl).trans (whenUp_of_up up))
  refine ⟨_, run, grantCredits_changes r q s, ?_⟩
  have uplink : (grantCredits r q s).uplink =
      { s.uplink with
        requestCredits := addCredits s.uplink.requestCredits r
        postedCredits := addCredits s.uplink.postedCredits q } := by
    unfold grantCredits
    dsimp only
    split <;> simp
  rw [uplink]
  refine ⟨rfl, addCredits_toNat _ _, addCredits_toNat _ _, fun fr fq => ?_, fun past room => ?_⟩
  · have fits : (overflows s.uplink.requestCredits r || overflows s.uplink.postedCredits q) = false := by
      simp [overflows, fr, fq]
    simp [grantCredits, fits]
  · have exceeds : (overflows s.uplink.requestCredits r || overflows s.uplink.postedCredits q) = true := by
      simpa [overflows] using past
    simp only [grantCredits, exceeds, if_true]
    exact takeFault_no_slot_queue rfl room

/-- Settles O18: each timer's rule on the state at its deadline. -/
theorem linkTimersExpire : Obligations.LinkTimersExpire := by
  refine ⟨fun d f fs s due replay count => ⟨beginReplay (passTo d s), ?_, ?_, rfl, ?_⟩,
    fun d s down due => ?_, fun d s training due => ?_, fun d s due => ?_⟩
  · simp only [exec, execReplayDeadlineExpiry, due]
    rw [replayDue_begins (s := passTo d s) count]
  · simp [onlyChanges_iff]
  · exact beginReplay_spec (s := passTo d s) replay
  · refine ⟨_, exec_eq_next _ s, after_changes .initIntervalExpiry s, ?_⟩
    simp only [after, exec, execInitIntervalExpiry, due, not_linkUp down, Bool.false_eq_true, if_false]
    exact ⟨rfl, rfl⟩
  · refine ⟨_, exec_eq_next _ s, after_changes .trainingDeadlineExpiry s, ?_⟩
    simp only [after, exec, execTrainingDeadlineExpiry, training, due]
    exact ⟨rfl, rfl⟩
  · refine ⟨_, exec_eq_next _ s, after_changes .ackDeadlineExpiry s, ?_⟩
    simp only [after, exec, execAckDeadlineExpiry, due]
    exact ⟨rfl, by simp [makeAckDue, due]⟩

/-- Settles O13: every cause is one link loss, and its blocks are written out. -/
theorem linkLossEndsTraffic : Obligations.LinkLossEndsTraffic := by
  intro c training reset time s cause up
  refine ⟨_, lossCause_after cause up, by simp, by simp, by simp, ?_, ?_, fun room => ?_, fun full => ?_⟩
  · simp [linkLoss, lossUplink, Config.trainingTime, Config.initInterval, Config.ms]
  · simp [linkLoss, lossCommand]
  · rw [linkLoss, takeFault_no_slot_queue rfl (by simpa using room)]
    simp
    rfl
  · rw [linkLoss, takeFault_no_slot_full rfl (by simpa using full)]
    simp

/-- Settles O15: an acknowledgement inside the buffer is progress, one of the last Seq acknowledged removes nothing, and any
other lies outside. -/
theorem ackAndNakRemoveFrames : Obligations.AckAndNakRemoveFrames := by
  have ack : ∀ (p : List Byte) (s : State), p.length = 4 → s.uplink.linkState = .up →
      exec (.ackReceived p) s = .next (applyAck (namedSeq p) s) := fun p s length up =>
    congrArg Host.Outcome.next ((receive_fits (by simp [lengthFits, length])).trans (whenUp_of_up up))
  have nak : ∀ (p : List Byte) (s : State), p.length = 4 → s.uplink.linkState = .up →
      exec (.nakReceived p) s = .next (applyNak (namedSeq p) s) := fun p s length up =>
    congrArg Host.Outcome.next ((receive_fits (by simp [lengthFits, length])).trans (whenUp_of_up up))
  refine ⟨fun p f fs k s length up replay hk inside => ⟨_, ack p s length up, ?_⟩,
    fun p f g fs gs k s length up replay hk left => ⟨_, nak p s length up, ?_⟩,
    fun p f fs s length up replay hk => ⟨_, nak p s length up, ?_⟩,
    fun p f fs s length up replay bound last count => ⟨_, nak p s length up, ?_⟩,
    fun p s length up bound last => ⟨?_, fun empty => ?_⟩, fun p s length up outside other => ⟨?_, ?_⟩⟩
  · rw [applyAck_inside replay hk inside]
    have spec := progress_spec (k := k) replay
    have next : (progress (k + 1) s).uplink.replayNext = replayNextAfter f (fs.drop k) k s.uplink.replayNext :=
      congrArg Uplink.replayNext spec
    refine ⟨by simp [onlyChanges_iff], ?_, fun none => ?_, fun m g gs some left => ?_, fun left => ?_⟩
    · rw [next]
      exact spec
    · rw [next, none]
      rfl
    · rw [next, some, left]
      rfl
    · rw [next, left]
      cases s.uplink.replayNext <;> rfl
  · have inside : k ≤ fs.length := by
      by_contra past
      rw [List.drop_eq_nil_of_le (by omega)] at left
      cases left
    have spec := progress_spec (k := k) replay
    rw [left] at spec
    have begins : replayIfAny (progress (k + 1) s) = beginReplay (progress (k + 1) s) :=
      replayIfAny_begins (f := g) (fs := gs) (by rw [spec]) (by rw [spec]; exact Nat.succ_pos 3)
    rw [applyNak_inside replay hk inside, begins]
    refine ⟨by simp [onlyChanges_iff], ?_⟩
    rw [beginReplay_spec (f := g) (fs := gs) (by rw [spec]), spec]
    simp
  · have spec := progress_spec (k := fs.length) replay
    rw [List.drop_length] at spec
    rw [applyNak_inside replay hk le_rfl, replayIfAny_empty (by rw [spec])]
    refine ⟨by simp [onlyChanges_iff], ?_⟩
    rw [spec]
    cases s.uplink.replayNext <;> rfl
  · rw [applyNak_last (last.trans (oldest_cons replay).symm) bound, replayIfAny_begins replay count]
    exact ⟨by simp [onlyChanges_iff], beginReplay_spec replay⟩
  · rw [ack p s length up, applyAck_outside (lastAcknowledged_outside last bound)]
  · rw [nak p s length up, applyNak_last last bound, replayIfAny_empty empty]
  · rw [ack p s length up, applyAck_outside outside]
  · rw [nak p s length up, applyNak_outside outside other]

/-- Settles O14: the same link loss, at the blocks that hold work. -/
theorem linkLossDiscardsWork : Obligations.LinkLossDiscardsWork := by
  intro c training reset time s cause up
  refine ⟨_, lossCause_after cause up, ?_⟩
  obtain ⟨master, bus⟩ := linkLoss_master_bus training reset (s.setNow time)
  simp only [linkLoss_staging, linkLoss_tracker, linkLoss_locks, lineAt_linkLoss, eventAt_linkLoss, linkLoss_events, master,
    bus]
  refine ⟨fun i => rfl, ⟨rfl, rfl, rfl, rfl, rfl, rfl, fun slot => by simp [lossStaging], lossStaging_lru (s.setNow time)⟩,
    fun i => ?_, ⟨rfl, rfl, rfl, rfl, rfl, rfl, rfl⟩, ⟨rfl, rfl, rfl, rfl, rfl⟩, fun slot => rfl, rfl, rfl,
    fun idle => lossMaster_idle idle, fun presenting => ?_, lossMaster_slots _⟩
  · simp only [discardTracker, retireAll, Table.get_map, TagRecord.busy, State.setNow_tracker]
    generalize s.tracker.tags.get i = record
    cases record with
    | mk state generation => cases state <;> rfl
  · rw [lossMaster_presenting (s := s.setNow time) presenting]
    exact ⟨rfl, rfl⟩

end Sys2Proof
end

section
/-! The transmitter: link frames and replays first, then the class that the rotation chooses. -/

namespace Sys2Proof.Machine

/-! ### The choice -/

/-- The class that the arbiter finds is ready, and those tested before it are not (R180). -/
theorem ready_of_find {s : State} {c : TxClass} (h : (classesAfter s.uplink.classPointer).find? (classReady s) = some c) :
    Ready s c ∧ ∀ x, testedBefore s x < testedBefore s c → ¬ Ready s x := by
  have ready : Ready s c := (classReady_iff s c).mp (List.find?_some h)
  obtain ⟨first, firstReady, least⟩ := (measure (testedBefore s)).wf.has_min {x | Ready s x} ⟨c, ready⟩
  have found := find_chosen firstReady fun x before readyX => least x readyX before
  obtain rfl : c = first := Option.some.inj (h.symm.trans found)
  exact ⟨ready, fun x before readyX => least x readyX before⟩

/-- The transmitter serves the class chosen, or sends nothing new (R180). -/
theorem transmitNext_split (s : State) :
    (∃ c, Chosen c s ∧ transmitNext s = serveClass c s) ∨ NothingNewSent s (transmitNext s) := by
  have link : ∀ u : Uplink, u.nextTx = s.uplink.nextTx → u.replay = s.uplink.replay →
      u.postedCredits = s.uplink.postedCredits → u.requestCredits = s.uplink.requestCredits →
      u.classPointer = s.uplink.classPointer → NothingNewSent s (s.setUplink u) := fun u next replay posts requests pointer =>
    ⟨by simp [onlyChanges_iff], next, replay, posts, requests, pointer⟩
  have nothing : NothingNewSent s s := link s.uplink rfl rfl rfl rfl rfl
  unfold transmitNext
  split
  · exact .inr (link _ rfl rfl rfl rfl rfl)
  split
  · exact .inr (link _ rfl rfl rfl rfl rfl)
  split
  · exact .inr (link _ rfl rfl rfl rfl rfl)
  split
  · exact .inr (link _ rfl rfl rfl rfl rfl)
  split
  · exact .inr (link _ rfl rfl rfl rfl rfl)
  next reset init nak ack credit =>
    split
    · unfold sendReplay
      split <;> exact .inr (link _ rfl rfl rfl rfl rfl)
    · next noReplay =>
      unfold serveNew
      split
      · next room =>
        simp only [linkUp, Config.replayPlaces, Bool.and_eq_true, beq_iff_eq] at room
        obtain ⟨up, room⟩ := room
        split
        · next c find =>
          have noCredit : s.uplink.pendingCredits = 0 := by
            simpa [creditDue, linkUp, up] using credit
          simp only [Bool.not_eq_true] at reset init nak ack
          exact .inl ⟨c, ⟨⟨⟨reset, init, nak, ack, noCredit, noReplay⟩, up, of_decide_eq_true room⟩, ready_of_find find⟩, rfl⟩
        · exact .inr nothing
      · exact .inr nothing

/-! ### What a class leaves alone -/

theorem transmit_credits (f : UpFrame) (s : State) : (transmit f s).uplink.postedCredits = s.uplink.postedCredits ∧
    (transmit f s).uplink.requestCredits = s.uplink.requestCredits := ⟨rfl, rfl⟩

theorem serveClass_pointer (c : TxClass) (s : State) : (serveClass c s).uplink.classPointer = c := by
  cases c with
  | reply =>
    change (serveReply (setClass .reply s)).uplink.classPointer = .reply
    unfold serveReply
    (repeat' split) <;> rfl
  | fault =>
    change (serveFault (setClass .fault s)).uplink.classPointer = .fault
    unfold serveFault
    split <;> rfl
  | posted =>
    change (servePosted (setClass .posted s)).uplink.classPointer = .posted
    unfold servePosted
    split <;> rfl
  | request =>
    change (serveRequest (setClass .request s)).uplink.classPointer = .request
    unfold serveRequest
    split
    · dsimp only
      split <;> rfl
    · rfl

/-- The tracker and the credits after the REPLY and the FAULT class. -/
theorem serveClass_report {c : TxClass} (h : c = .reply ∨ c = .fault) (s : State) :
    (serveClass c s).tracker = s.tracker ∧ (serveClass c s).uplink.postedCredits = s.uplink.postedCredits ∧
      (serveClass c s).uplink.requestCredits = s.uplink.requestCredits := by
  obtain rfl | rfl := h
  · change (serveReply (setClass .reply s)).tracker = s.tracker ∧
      (serveReply (setClass .reply s)).uplink.postedCredits = s.uplink.postedCredits ∧
      (serveReply (setClass .reply s)).uplink.requestCredits = s.uplink.requestCredits
    unfold serveReply
    (repeat' split) <;> simp [sendEvent, sendReport, setSource, setClass, transmit_credits, eventTransmitted]
  · change (serveFault (setClass .fault s)).tracker = s.tracker ∧
      (serveFault (setClass .fault s)).uplink.postedCredits = s.uplink.postedCredits ∧
      (serveFault (setClass .fault s)).uplink.requestCredits = s.uplink.requestCredits
    unfold serveFault
    split <;> simp [setClass, transmit_credits]

theorem serveClass_posted (s : State) : (serveClass .posted s).tracker.requestQueue = s.tracker.requestQueue ∧
    (serveClass .posted s).tracker.tags = s.tracker.tags ∧
    (serveClass .posted s).uplink.requestCredits = s.uplink.requestCredits := by
  change (servePosted (setClass .posted s)).tracker.requestQueue = s.tracker.requestQueue ∧
    (servePosted (setClass .posted s)).tracker.tags = s.tracker.tags ∧
    (servePosted (setClass .posted s)).uplink.requestCredits = s.uplink.requestCredits
  unfold servePosted
  split
  · refine ⟨by simp [leavePosted], by simp [leavePosted], ?_⟩
    simp [setClass, transmit_credits]
  · exact ⟨rfl, rfl, rfl⟩

theorem serveClass_request (s : State) : (serveClass .request s).tracker.posted = s.tracker.posted ∧
    (serveClass .request s).uplink.postedCredits = s.uplink.postedCredits := by
  change (serveRequest (setClass .request s)).tracker.posted = s.tracker.posted ∧
    (serveRequest (setClass .request s)).uplink.postedCredits = s.uplink.postedCredits
  unfold serveRequest
  split
  · dsimp only
    split <;> exact ⟨rfl, rfl⟩
  · exact ⟨rfl, rfl⟩

/-! ### What a class sends -/

/-- What a state has that differs from s in other blocks, in the class pointer and in the credits (R175, R174). -/
theorem transmitted_of {f : UpFrame} {s t : State} (next : t.uplink.nextTx = s.uplink.nextTx)
    (rx : t.uplink.nextRx = s.uplink.nextRx) (replay : t.uplink.replay = s.uplink.replay)
    (deadline : t.uplink.replayDeadline = s.uplink.replayDeadline) (now : t.now = s.now) :
    Transmitted f s (transmit f t) := by
  simp only [Transmitted, transmit, State.setUplink_uplink, Uplink.acknowledging, lastAccepted, next, rx, replay, deadline, now]
  exact ⟨trivial, trivial, trivial, trivial, trivial, rfl⟩

/-- The slot has no untransmitted writes once the head has left (R39). -/
theorem untransmitted_leave (rest : List PostedEntry) (slot : Slot) (s : State) :
    untransmitted slot (leavePosted rest s) = false ↔
      (∀ j, (lineAt j s).ofSlot slot = true → (lineAt j s).isWrite = false) ∧ ∀ y ∈ rest, y.slot ≠ slot := by
  have lines : s.staging.lines.items.any (fun l => l.isWrite && l.ofSlot slot) = false ↔
      ∀ j, (lineAt j s).ofSlot slot = true → (lineAt j s).isWrite = false := by
    rw [← Bool.not_eq_true, any_lines]
    simp only [Bool.and_eq_true, not_exists, not_and, Bool.not_eq_true]
    exact ⟨fun h j own => by_contra fun write => by simp [h j (by simpa using write)] at own,
      fun h j write => by_contra fun own => by simp [h j (by simpa using own)] at write⟩
  have posted : hasPosted slot (leavePosted rest s) = rest.any (fun p => p.slot == slot) := rfl
  simp only [untransmitted, Bool.or_eq_false_iff, leavePosted_frame, lines, posted, List.any_eq_false, beq_iff_eq, ne_eq]

theorem map_sent (n : BitVec 16) (mark : Option Mark) :
    mark.map (Mark.sent n) = if mark = some (.posted n) then some .transmitted else mark := by
  cases mark with
  | none => rfl
  | some m =>
    simp only [Option.map_some, Mark.sent, Option.some.injEq]
    split <;> rfl

/-- What the drains learn of a transmitted entry, slot by slot (R39, R64). -/
theorem reportTransmitted_drains (p : PostedEntry) (s : State) (x : Slot) :
    (reportTransmitted p s).staging.slotDrains.get x =
      if x = p.slot ∧ untransmitted x s = false then (s.staging.slotDrains.get x).finish else s.staging.slotDrains.get x := by
  simp only [reportTransmitted, State.setStaging_staging]
  by_cases own : x = p.slot
  · subst own
    cases untransmitted p.slot s <;> simp
  · cases untransmitted p.slot s <;> simp [own, Ne.symm own]

end Sys2Proof.Machine

namespace Sys2Proof

open Sys2Proof.Machine

/-- Settles O19: the rows of the arbiter above row 3. -/
theorem linkFramesGoFirst : Obligations.LinkFramesGoFirst := by
  have only : ∀ (s : State) (u : Uplink), OnlyChanges [.uplink] s (s.setUplink u) := fun s u => by simp [onlyChanges_iff]
  have run : ∀ s, exec .transmitterFree s = .next (transmitNext s) := fun _ => rfl
  simp only [Obligations.LinkFramesGoFirst, run]
  refine ⟨fun s reset => ⟨_, congrArg _ (show transmitNext s = sendLinkReset s from ?_), only s _, rfl⟩,
    fun s reset init => ⟨_, congrArg _ (show transmitNext s = sendInit s from ?_), only s _, rfl⟩,
    fun s reset init nak => ⟨_, congrArg _ (show transmitNext s = sendNak s from ?_), only s _, rfl⟩,
    fun s reset init nak ack => ⟨_, congrArg _ (show transmitNext s = sendAck s from ?_), only s _, rfl⟩,
    fun s reset init nak ack up credits => ⟨_, congrArg _ (show transmitNext s = sendCredit s from ?_), only s _, rfl⟩,
    fun n f s reset init nak ack credits replay find => ?_⟩
  · simp [transmitNext, reset]
  · simp [transmitNext, reset, init]
  · simp [transmitNext, reset, init, nak]
  · simp [transmitNext, reset, init, nak, ack]
  · simp [transmitNext, reset, init, nak, ack, creditDue, linkUp, up, credits]
  · have replays : transmitNext s = sendReplay n s := by
      simp [transmitNext, reset, init, nak, ack, creditDue, credits, replay]
    rw [replays, sendReplay, find]
    exact ⟨_, rfl, only s _, by simp [Uplink.acknowledging, lastAccepted, ack]⟩

/-- Settles O21: the class chosen is served, and its head is transmitted. -/
theorem reportsAreTransmitted : Obligations.ReportsAreTransmitted := by
  have run : ∀ {c s}, Chosen c s → exec .transmitterFree s = .next (serveClass c s) := fun chosen =>
    congrArg Host.Outcome.next (transmitNext_chosen chosen)
  refine ⟨fun r rest s chosen head => ?_, fun f rest s chosen head turn => ?_, fun f rest s chosen head turn => ?_⟩
  · have served : serveClass .fault s =
        transmit (.fault r) ((setClass .fault s).setFaults { s.faults with queue := rest }) := by
      simp [serveClass, serveFault, head]
    rw [run chosen, served]
    exact ⟨_, rfl, by simp [onlyChanges_iff], transmitted_of rfl rfl rfl rfl rfl, rfl, rfl⟩
  · have served : serveClass .reply s = sendReport f rest (setClass .reply s) := by
      change serveReply (setClass .reply s) = _
      unfold serveReply
      split
      · next replies offered =>
        have source : s.uplink.replySource = .events := turn.resolve_left (by simpa using offered ▸ List.cons_ne_nil _ _)
        obtain ⟨rfl, rfl⟩ := List.cons.inj (replies.symm.trans head)
        rw [if_neg (by simp [setClass, source])]
      · next replies _ =>
        obtain ⟨rfl, rfl⟩ := List.cons.inj (replies.symm.trans head)
        rfl
      · next replies _ => cases replies.symm.trans head
      · next replies _ => cases replies.symm.trans head
    rw [run chosen, served]
    exact ⟨_, rfl, by simp [onlyChanges_iff, sendReport], transmitted_of rfl rfl rfl rfl rfl, rfl, rfl, rfl⟩
  · have served : serveClass .reply s = sendEvent f rest (setClass .reply s) := by
      change serveReply (setClass .reply s) = _
      unfold serveReply
      split
      · next replies offered =>
        have source : s.uplink.replySource = .replyQueue := turn.resolve_left (by simpa using replies ▸ List.cons_ne_nil _ _)
        obtain ⟨rfl, rfl⟩ := List.cons.inj (offered.symm.trans head)
        exact if_pos source
      · next offered => cases offered.symm.trans head
      · next offered =>
        obtain ⟨rfl, rfl⟩ := List.cons.inj (offered.symm.trans head)
        rfl
      · next offered => cases offered.symm.trans head
    rw [run chosen, served]
    exact ⟨_, rfl, by simp [onlyChanges_iff, sendEvent, eventTransmitted], transmitted_of rfl rfl rfl rfl rfl, rfl, rfl, rfl⟩

/-- Settles O20: the transmitter serves the class chosen or sends nothing new, and each class uses its own credits. -/
theorem postedAndRequestsAreTransmitted : Obligations.PostedAndRequestsAreTransmitted := by
  have run : ∀ {c s}, Chosen c s → exec .transmitterFree s = .next (serveClass c s) := fun chosen =>
    congrArg Host.Outcome.next (transmitNext_chosen chosen)
  refine ⟨fun p rest s chosen head => ?_, fun i rest r s chosen head waiting => ?_, fun s => ?_, fun s row idle => ?_⟩
  · have served : serveClass .posted s = servePosted (setClass .posted s) := rfl
    rw [run chosen, served, servePosted, show (setClass .posted s).tracker.posted = p :: rest from head]
    refine ⟨_, rfl, by simp [onlyChanges_iff], transmitted_of rfl rfl rfl rfl rfl, rfl, rfl, rfl, ?_, ?_, fun x => ?_⟩
    · simp [leavePosted, holdOnLeave]
    · simp only [transmit_frame, State.setUplink_staging, reportTransmitted, State.setStaging_staging, map_sent]
      rfl
    · have drains := reportTransmitted_drains p (leavePosted rest (setClass .posted s)) x
      simp only [untransmitted_leave] at drains
      simp only [transmit_frame, State.setUplink_staging, drains]
      refine if_congr ?_ rfl rfl
      exact and_congr_right fun _ => Iff.rfl
  · have served : serveClass .request s = serveRequest (setClass .request s) := rfl
    rw [run chosen, served, serveRequest, show (setClass .request s).tracker.requestQueue = i :: rest from head]
    dsimp only
    rw [show ((setClass .request s).tracker.tags.get i).state = .waiting r from waiting]
    exact ⟨_, rfl, by simp [onlyChanges_iff], transmitted_of rfl rfl rfl rfl rfl, rfl, rfl, rfl, rfl⟩
  · refine ⟨transmitNext s, rfl, ?_⟩
    obtain ⟨c, chosen, served⟩ | nothing := transmitNext_split s
    · obtain ⟨⟨_, up, room⟩, ready, _⟩ := id chosen
      have full : ¬ (16 ≤ s.uplink.replay.length ∨ s.uplink.linkState ≠ .up) := by simp [up, room]
      rw [served]
      refine ⟨?_, ?_, fun idle => absurd idle full, .inl ⟨c, chosen, serveClass_pointer c s⟩⟩
      · intro none
        cases c with
        | posted => exact absurd none ready.2
        | request =>
          obtain ⟨posted, posts⟩ := serveClass_request s
          exact ⟨posted, posts.trans none⟩
        | reply =>
          obtain ⟨tracker, posts, _⟩ := serveClass_report (.inl rfl) s
          exact ⟨congrArg Tracker.posted tracker, posts.trans none⟩
        | fault =>
          obtain ⟨tracker, posts, _⟩ := serveClass_report (.inr rfl) s
          exact ⟨congrArg Tracker.posted tracker, posts.trans none⟩
      · intro none
        cases c with
        | request => exact absurd none ready.2
        | posted =>
          obtain ⟨queue, tags, requests⟩ := serveClass_posted s
          exact ⟨queue, tags, requests.trans none⟩
        | reply =>
          obtain ⟨tracker, _, requests⟩ := serveClass_report (.inl rfl) s
          exact ⟨congrArg Tracker.requestQueue tracker, congrArg Tracker.tags tracker, requests.trans none⟩
        | fault =>
          obtain ⟨tracker, _, requests⟩ := serveClass_report (.inr rfl) s
          exact ⟨congrArg Tracker.requestQueue tracker, congrArg Tracker.tags tracker, requests.trans none⟩
    · obtain ⟨⟨kept, _⟩, _, _, posts, requests, _⟩ := id nothing
      have tracker : (transmitNext s).tracker = s.tracker := kept .tracker (by simp)
      rw [tracker, posts, requests]
      exact ⟨fun h => ⟨rfl, h⟩, fun h => ⟨rfl, rfl, h⟩, fun _ => nothing, .inr nothing⟩
  · obtain ⟨reset, init, nak, ack, credits, replay⟩ := row
    have new : transmitNext s = serveNew s := by
      simp [transmitNext, reset, init, nak, ack, creditDue, credits, replay]
    refine congrArg Host.Outcome.next (new.trans ?_)
    unfold serveNew
    split
    · next room =>
      simp only [linkUp, Config.replayPlaces, Bool.and_eq_true, beq_iff_eq] at room
      obtain ⟨up, room⟩ := room
      split
      · next c find =>
        obtain full | down | none := idle
        · exact absurd (of_decide_eq_true room) (Nat.not_lt.mpr full)
        · exact absurd up down
        · exact absurd (ready_of_find find).1 (none c)
      · rfl
    · rfl

end Sys2Proof
end

section
/-! The ordered commands of the Page Map and of the settings. -/

namespace Sys2Proof.Machine

/-! ### The head of the ordered sequence -/

/-- The execution row of the command at the head runs its start, and touches only the blocks of the row. -/
theorem exec_heads {i : Instr} {start : Command → Option (State → State)} {e : CommandEntry} {rest : List CommandEntry}
    {c : Command} {f : State → State} {s : State} (ho : orderedStart i = some start) (h : Heads s e rest c)
    (hf : start c = some f) :
    exec i s = .next (f (beginHead e rest s)) ∧ OnlyChanges (touched i) s (f (beginHead e rest s)) := by
  have run : after i s = f (beginHead e rest s) := (after_ordered ho s).trans (runHead_of_heads h hf)
  exact ⟨run ▸ exec_eq_next i s, run ▸ after_changes i s⟩

section

variable {e : CommandEntry} {rest : List CommandEntry} {s t u : State}

variable (e rest) in
theorem creditReturned_of_uplink (h : t.uplink = (beginHead e rest s).uplink) : CreditReturned s t := by
  rw [CreditReturned, h]
  exact (beginHead_spec e rest s).2

theorem complete_executing {x : Executing} (h : u.command.executing = some x) (result : ResultCode) (body : List Byte) :
    complete result body u =
      u.setCommand
        { u.command with executing := none, replies := u.command.replies ++ [.reply x.tag x.code result body] } := by
  simp [complete, h]

theorem setWait_executing {x : Executing} (h : u.command.executing = some x) (w : Wait) :
    setWait w u = u.setCommand { u.command with executing := some { x with wait := w } } := by
  simp [setWait, h]

/-- Completion after a start that leaves the Command Unit (R158, R156). -/
theorem replied_complete (h : u.command = (beginHead e rest s).command) (result : ResultCode) (body : List Byte) :
    Replied e rest result body s (complete result body u) := by
  have command := h.trans (beginHead_spec e rest s).1
  rw [Replied, complete_executing (congrArg CommandUnit.executing command), State.setCommand_command, command]

/-- A wait after such a start (R158). -/
theorem waits_setWait (h : u.command = (beginHead e rest s).command) (w : Wait) :
    Waits e rest w s (setWait w u) := by
  have command := h.trans (beginHead_spec e rest s).1
  rw [Waits, setWait_executing (congrArg CommandUnit.executing command), State.setCommand_command, command]

theorem linesQuieted_congr {p : Binding → Bool} (h : u.staging = s.staging) (hq : LinesQuieted p u t) :
    LinesQuieted p s t := by
  simpa only [LinesQuieted, ClosedAppended, lineAt, h] using hq

theorem linesQuieted_congr_right {p : Binding → Bool} (h : u.staging = t.staging) (hq : LinesQuieted p s u) :
    LinesQuieted p s t := by
  simpa only [LinesQuieted, ClosedAppended, lineAt, h] using hq

end

/-! ### Drains and barriers that a command waits for -/

@[simp] theorem awaitDrain_staging (s : State) : (awaitDrain s).staging = s.staging := by simp

theorem awaitDrain_complete {s : State} (h : s.staging.globalDrain = none) : awaitDrain s = complete .ok [] s := by
  simp [awaitDrain, h]

theorem awaitDrain_waits {s : State} (h : s.staging.globalDrain ≠ none) : awaitDrain s = setWait .drain s := by
  unfold awaitDrain
  split
  · contradiction
  · rfl

/-- A global drain with freeing, begun by a command (R17, R46). -/
theorem drained_spec {e : CommandEntry} {rest : List CommandEntry} {s u : State}
    (command : u.command = (beginHead e rest s).command) :
    LinesQuieted (fun _ => true) u (awaitDrain (drainAndFree u)) ∧ DrainMarked (awaitDrain (drainAndFree u)) ∧
      AwaitsDrain e rest s (awaitDrain (drainAndFree u)) := by
  obtain ⟨quieted, marked⟩ := drainAndFree_spec u
  have drained : (drainAndFree u).command = (beginHead e rest s).command := by simpa using command
  refine ⟨linesQuieted_congr_right (by simp) quieted, by simpa [DrainMarked] using marked, fun none => ?_, fun some => ?_⟩
  · rw [awaitDrain_staging] at none
    rw [awaitDrain_complete none]
    exact replied_complete drained _ _
  · rw [awaitDrain_staging] at some
    rw [awaitDrain_waits some]
    exact waits_setWait drained _

theorem drainAndFree_rest (s : State) : SettingsKept s (drainAndFree s) ∧
    (drainAndFree s).staging.slotDrains = s.staging.slotDrains ∧
    (drainAndFree s).staging.mapBarrier = s.staging.mapBarrier := by
  simp [SettingsKept, drainAndFree, freeAllReads, startGlobalDrain]

theorem barrierCovers_eq (m : PageMap) (first count : Nat) : barrierCovers m first count = coveredBy m first count := by
  funext b
  simp [barrierCovers, coveredBy, covers, Bool.decide_and]

/-- The command is complete with its barrier complete at its start, or waits for it (R14). -/
theorem barrierBegun_await {p : Binding → Bool} {x : Executing} {u v : State} (executing : u.command.executing = some x)
    (command : v.command = u.command)
    (barrier : v.staging.mapBarrier = (v.staging.closedOrder.filter (fun i => (lineAt i v).binding.any p)).getLast?.map .line) :
    BarrierBegun p x u (awaitBarrier v) := by
  have staging : (awaitBarrier v).staging = v.staging := by simp
  have running : v.command.executing = some x := by rw [command, executing]
  simp only [BarrierBegun, lineAt, staging]
  unfold awaitBarrier
  rw [barrier]
  simp only [lineAt]
  split
  · next none =>
    simp only [none, Option.map_none, Finished]
    rw [complete_executing running, command]
    exact ⟨trivial, rfl⟩
  · next j some =>
    simp only [some, Option.map_some, WaitsNow]
    rw [setWait_executing running, command]
    exact ⟨trivial, rfl⟩

@[simp] theorem awaitBarrier_staging (s : State) : (awaitBarrier s).staging = s.staging := by simp

/-- The start of a map command over the entries that a new table changes (R11, R13). -/
theorem barrier_started {p : Binding → Bool} {m : PageMap} {x : Executing} {u : State}
    (executing : u.command.executing = some x) :
    let t := awaitBarrier ((startMapBarrier p u).setPageMap m)
    OnlyChanges [.pageMap, .staging, .command] u t ∧ SettingsKept u t ∧ t.staging.slotDrains = u.staging.slotDrains ∧
      t.pageMap = m ∧ LinesQuieted p u t ∧ t.staging.globalDrain = u.staging.globalDrain ∧ BarrierBegun p x u t := by
  obtain ⟨quieted, barrier⟩ := startMapBarrier_spec p u
  refine ⟨by simp [onlyChanges_iff], ?_, ?_, by simp, linesQuieted_congr_right (by simp) quieted, ?_,
    barrierBegun_await executing (by simp) barrier⟩
  all_goals simp [SettingsKept, startMapBarrier]

theorem startMapWrite_eq (first : Nat) (records : List EntryFields) (u : State) :
    startMapWrite first records u =
      awaitBarrier ((startMapBarrier (coveredBy u.pageMap first records.length) u).setPageMap
        { u.pageMap with entries := writeEntries first records u.pageMap.entries }) := by
  rw [startMapWrite, barrierCovers_eq]

theorem startMapInvalidate_eq (first count : Nat) (u : State) :
    startMapInvalidate first count u =
      awaitBarrier ((startMapBarrier (coveredBy u.pageMap first count) u).setPageMap
        { u.pageMap with entries := invalidateEntries first count u.pageMap.entries }) := by
  rw [startMapInvalidate, barrierCovers_eq]

/-- What the start of each map command does to the state of the executing command x (R11, R13, R16). -/
theorem mapStart_started {x : Executing} {c : Command} {f : State → State} {u : State}
    (executing : u.command.executing = some x) (h : mapStart c = some f) : MapStarted x c u (f u) := by
  cases c with
  | mapWrite first records =>
    cases h
    rw [startMapWrite_eq]
    obtain ⟨frame, settings, drains, pageMap, quieted, drain, begun⟩ := barrier_started executing
      (p := coveredBy u.pageMap first records.length)
      (m := { u.pageMap with entries := writeEntries first records u.pageMap.entries })
    refine ⟨frame, settings, drains, by rw [pageMap], by rw [pageMap], fun i => ?_, quieted, drain,
      begun⟩
    rw [pageMap]
    simp only [writeEntries, Table.get_mapIx]
    rfl
  | mapInvalidate first count =>
    cases h
    rw [startMapInvalidate_eq]
    obtain ⟨frame, settings, drains, pageMap, quieted, drain, begun⟩ := barrier_started executing
      (p := coveredBy u.pageMap first count)
      (m := { u.pageMap with entries := invalidateEntries first count u.pageMap.entries })
    refine ⟨frame, settings, drains, by rw [pageMap], by rw [pageMap], fun i => ?_, quieted, drain,
      begun⟩
    rw [pageMap]
    simp only [invalidateEntries, Table.get_mapIx, covers, Bool.and_eq_true, decide_eq_true_eq]
    rfl
  | windowSet on base =>
    cases h
    obtain ⟨quieted, marked⟩ := drainAndFree_spec
      (u.setPageMap { u.pageMap with on := on, base := if on then base else u.pageMap.base })
    obtain ⟨settings, drains, barrier⟩ := drainAndFree_rest
      (u.setPageMap { u.pageMap with on := on, base := if on then base else u.pageMap.base })
    refine ⟨by simp [onlyChanges_iff, startWindowSet], ?_, ?_, by simp [startWindowSet], ?_, ?_, ?_, fun none => ?_,
      fun some => ?_⟩
    · simpa [SettingsKept, startWindowSet] using settings
    · simpa [startWindowSet] using drains
    · exact linesQuieted_congr_right (by simp [startWindowSet]) quieted
    · simpa [startWindowSet] using barrier
    · simpa [DrainMarked, startWindowSet] using marked
    · rw [startWindowSet, awaitDrain_staging] at none
      rw [startWindowSet, awaitDrain_complete none, Finished, complete_executing (by simpa using executing)]
      simp
    · rw [startWindowSet, awaitDrain_staging] at some
      rw [startWindowSet, awaitDrain_waits some, WaitsNow, setWait_executing (by simpa using executing)]
      simp
  | _ => cases h

theorem awaitsBarrier_of_begun {p : Binding → Bool} {e : CommandEntry} {rest : List CommandEntry} {s t : State}
    (h : BarrierBegun p ⟨e.tag, e.code, e.args, .none⟩ (beginHead e rest s) t) : AwaitsBarrier p e rest s t := by
  have command := (beginHead_spec e rest s).1
  unfold BarrierBegun at h
  unfold AwaitsBarrier
  split
  · next none =>
    rw [none] at h
    obtain ⟨barrier, finished⟩ := h
    exact ⟨barrier, by rw [Finished, command] at finished; exact finished⟩
  · next some =>
    rw [some] at h
    obtain ⟨barrier, waits⟩ := h
    exact ⟨barrier, by rw [WaitsNow, command] at waits; exact waits⟩

/-- A map command at the head, with no episode in progress (R10). -/
theorem mapStart_heads {i : Instr} {start : Command → Option (State → State)} {e : CommandEntry} {rest : List CommandEntry}
    {c : Command} {f : State → State} {s : State} (ho : orderedStart i = some start) (heads : Heads s e rest c)
    (hs : start c = some (startUnlessEpisode f)) (hf : mapStart c = some f) (none : s.locks.episode = none) :
    exec i s = .next (f (beginHead e rest s)) ∧ OnlyChanges (touched i) s (f (beginHead e rest s)) ∧
      CreditReturned s (f (beginHead e rest s)) ∧
      MapStarted ⟨e.tag, e.code, e.args, .none⟩ c (beginHead e rest s) (f (beginHead e rest s)) := by
  have free : (beginHead e rest s).locks.episode = .none := by simpa using none
  have starts : startUnlessEpisode f (beginHead e rest s) = f (beginHead e rest s) := by rw [startUnlessEpisode, free]
  obtain ⟨run, frame⟩ := exec_heads ho heads hs
  rw [starts] at run frame
  have started := mapStart_started (u := beginHead e rest s) (congrArg CommandUnit.executing (beginHead_spec e rest s).1) hf
  obtain ⟨⟨kept, _⟩, _⟩ := id started
  exact ⟨run, frame, creditReturned_of_uplink e rest (kept .uplink (by simp)), started⟩

/-- The global drain that FLUSH and DISABLE begin after the settings (R46). -/
theorem bufferDrain_spec {e : CommandEntry} {rest : List CommandEntry} {on : Bool} {g : Option Nat} {r : Option Bool}
    {s u : State}
    (staging : u.staging =
      { s.staging with
        buffering := on
        gatherIdle := g.getD s.staging.gatherIdle
        readAhead := r.getD s.staging.readAhead })
    (uplink : u.uplink = (beginHead e rest s).uplink) (command : u.command = (beginHead e rest s).command) :
    let t := awaitDrain (drainAndFree u)
    CreditReturned s t ∧ t.staging.buffering = on ∧ t.staging.gatherIdle = g.getD s.staging.gatherIdle ∧
      t.staging.readAhead = r.getD s.staging.readAhead ∧ LinesQuieted (fun _ => true) s t ∧
      t.staging.slotDrains = s.staging.slotDrains ∧ t.staging.mapBarrier = s.staging.mapBarrier ∧ DrainMarked t ∧
      AwaitsDrain e rest s t := by
  obtain ⟨quieted, marked, awaits⟩ := drained_spec command
  obtain ⟨⟨buffering, ahead, idle⟩, drains, barrier⟩ := drainAndFree_rest u
  rw [staging] at buffering ahead idle drains barrier
  simp only [awaitDrain_staging]
  refine ⟨creditReturned_of_uplink e rest (by simpa using uplink), buffering, idle, ahead, ?_, drains, barrier, marked, awaits⟩
  simpa only [LinesQuieted, ClosedAppended, lineAt, staging] using quieted

end Sys2Proof.Machine

namespace Sys2Proof

open Sys2Proof.Machine

/-- Settles O24: the start of the command on the state in which it has become the executing one. -/
theorem mapCommandsChangeEntriesAndBarrier : Obligations.MapCommandsChangeEntriesAndBarrier := by
  refine ⟨fun e rest first records s heads none => ?_, fun e rest first count s heads none => ?_⟩
  · obtain ⟨run, frame, credit, _, settings, drains, on, base, entries, quieted, drain, begun⟩ :=
      mapStart_heads (i := .mapWrite) rfl heads rfl rfl none
    simp only [beginHead_frame] at on base entries drains drain quieted begun
    refine ⟨_, run, frame, credit, on, base, entries, linesQuieted_congr (by simp) quieted, ?_, drains, drain,
      awaitsBarrier_of_begun begun⟩
    simpa [SettingsKept] using settings
  · obtain ⟨run, frame, credit, _, settings, drains, on, base, entries, quieted, drain, begun⟩ :=
      mapStart_heads (i := .mapInvalidate) rfl heads rfl rfl none
    simp only [beginHead_frame] at on base entries drains drain quieted begun
    refine ⟨_, run, frame, credit, on, base, entries, linesQuieted_congr (by simp) quieted, ?_, drains, drain,
      awaitsBarrier_of_begun begun⟩
    simpa [SettingsKept] using settings

/-- Settles O27: the same for the start of WINDOW_SET. -/
theorem windowSetDrainsAndFrees : Obligations.WindowSetDrainsAndFrees := by
  intro e rest on base s heads none
  obtain ⟨run, frame, credit, _, settings, drains, pageMap, quieted, barrier, marked, finished, waits⟩ :=
    mapStart_heads (i := .windowSet) rfl heads rfl rfl none
  have command := (beginHead_spec e rest s).1
  simp only [beginHead_frame] at pageMap barrier drains
  rw [Finished, command] at finished
  rw [WaitsNow, command] at waits
  refine ⟨_, run, frame, credit, pageMap, linesQuieted_congr (by simp) quieted, ?_, drains, barrier, marked, finished, waits⟩
  simpa [SettingsKept] using settings

/-- Settles O26: MAP_READ completes at its start. -/
theorem mapReadReturnsEntries : Obligations.MapReadReturnsEntries := by
  intro e rest first count s heads
  obtain ⟨run, frame⟩ := exec_heads (i := .mapRead) rfl heads rfl
  refine ⟨_, run, frame, creditReturned_of_uplink e rest (by simp [startMapRead]), ?_⟩
  have body : mapReadBody first count (beginHead e rest s).pageMap = mapReadBody first count s.pageMap := by simp
  rw [startMapRead, body]
  exact replied_complete rfl _ _

/-- Settles O28: ENABLE completes at once, FLUSH and DISABLE begin the global drain with freeing. -/
theorem bufferControlSetsAndDrains : Obligations.BufferControlSetsAndDrains := by
  refine ⟨fun e rest g r s heads => ?_, fun e rest act i g r s heads row => ?_⟩
  · obtain ⟨run, frame⟩ := exec_heads (i := .bufferControlEnable) rfl heads rfl
    refine ⟨_, run, frame, creditReturned_of_uplink e rest (by simp [setBuffering, applyBufferFields]), ?_,
      replied_complete (by simp [setBuffering, applyBufferFields]) _ _⟩
    simp [setBuffering, applyBufferFields]
  · obtain ⟨rfl, rfl⟩ | ⟨rfl, rfl⟩ := row
    · obtain ⟨run, frame⟩ := exec_heads (i := .bufferControlFlush) rfl heads rfl
      refine ⟨_, run, frame, bufferDrain_spec (u := applyBufferFields g r (beginHead e rest s)) ?_ rfl rfl⟩
      simp [applyBufferFields]
    · obtain ⟨run, frame⟩ := exec_heads (i := .bufferControlDisable) rfl heads rfl
      refine ⟨_, run, frame, bufferDrain_spec (u := setBuffering false (applyBufferFields g r (beginHead e rest s))) ?_ rfl rfl⟩
      simp [applyBufferFields, setBuffering]

/-- Settles O29: the pair of marks decides. -/
theorem setLimitsChecksMarksThenSets : Obligations.SetLimitsChecksMarksThenSets := by
  intro e rest l s heads
  obtain ⟨run, frame⟩ := exec_heads (i := .setLimits) rfl heads rfl
  have tracker : (beginHead e rest s).tracker = s.tracker := by simp
  refine ⟨_, run, ?_, fun refused => ?_, fun marks => ⟨frame, ?_⟩⟩
  · refine creditReturned_of_uplink e rest ?_
    unfold applyLimits
    dsimp only
    split <;> simp
  · have marks : ¬ l.holdLow.getD (beginHead e rest s).tracker.holdLow < l.holdHigh.getD (beginHead e rest s).tracker.holdHigh := by
      rw [tracker]
      exact Nat.not_lt.mpr refused
    rw [applyLimits]
    dsimp only
    rw [if_neg marks]
    exact ⟨by simp [onlyChanges_iff], replied_complete rfl _ _⟩
  · have marks : l.holdLow.getD (beginHead e rest s).tracker.holdLow < l.holdHigh.getD (beginHead e rest s).tracker.holdHigh := by
      rwa [tracker]
    rw [applyLimits]
    dsimp only
    rw [if_pos marks]
    refine ⟨replied_complete (by simp) _ _, ?_, by simp, by simp⟩
    simp only [holdOnLimits, complete_frame, State.setMaster_tracker, State.setLocks_tracker, State.setTracker_tracker,
      beginHead_frame, ← decide_not, Nat.not_le]

end Sys2Proof
end

section
/-! Sequenced frames that arrive in order, the results of tags, and the end of an episode. -/

namespace Sys2Proof.Machine

/-! ### A frame in order -/

theorem acceptFrame_eq (s : State) : acceptFrame s = s.setUplink (acceptedUplink s) := by
  have four : decide (4 ≤ s.uplink.unacknowledged + 1) = decide (3 ≤ s.uplink.unacknowledged) :=
    decide_eq_decide.mpr Nat.succ_le_succ_iff
  simp only [acceptFrame, acceptedUplink, four]
  rfl

/-- A frame in order whose AckSeq acknowledges nothing is accepted and delivered (R173). -/
theorem sequenced_inOrder {seq ackSeq : SeqNo} {s : State} (h : InOrder seq ackSeq s) (deliver : State → State) :
    whenUp (sequenced seq ackSeq deliver) s = deliver (s.setUplink (acceptedUplink s)) := by
  obtain ⟨up, rfl, outside⟩ := h
  rw [whenUp_of_up up, sequenced, applyAck_outside outside, acceptFrame_eq]
  simp

theorem exec_memData_inOrder {seq ackSeq : SeqNo} {p : List Byte} {s : State} (h : InOrder seq ackSeq s) (low : 4 ≤ p.length)
    (high : p.length ≤ 68) :
    exec (.memDataReceived seq ackSeq p) s = .next (memData p (s.setUplink (acceptedUplink s))) :=
  congrArg Host.Outcome.next ((receive_fits (by simp [lengthFits, low, high])).trans (sequenced_inOrder h _))

theorem exec_command_inOrder {seq ackSeq : SeqNo} {p : List Byte} {s : State} (h : InOrder seq ackSeq s)
    (high : p.length ≤ 136) :
    exec (.commandReceived seq ackSeq p) s = .next (arrive p (s.setUplink (acceptedUplink s))) :=
  congrArg Host.Outcome.next ((receive_fits (by simp [lengthFits, high])).trans (sequenced_inOrder h _))

/-! ### The end of a tag -/

/-- The state in which a tag retires: after the acceptance of its MEM_DATA, or at its Deadline (R54, R56). -/
def retirementState (c : Instr) (d : Time) (s : State) : State :=
  match c with
  | .memDataReceived .. => s.setUplink (acceptedUplink s)
  | _ => passTo d s

@[simp] theorem retirementState_frame (c : Instr) (d : Time) (s : State) :
    (retirementState c d s).pageMap = s.pageMap ∧ (retirementState c d s).staging = s.staging ∧
      (retirementState c d s).tracker = s.tracker ∧ (retirementState c d s).bus = s.bus ∧
      (retirementState c d s).locks = s.locks ∧ (retirementState c d s).master = s.master ∧
      (retirementState c d s).events = s.events ∧ (retirementState c d s).faults = s.faults ∧
      (retirementState c d s).command = s.command ∧ (retirementState c d s).freeIndex = s.freeIndex ∧
      (retirementState c d s).pending = s.pending := by
  cases c <;> simp [retirementState]

theorem retirementState_uplink (c : Instr) (d : Time) (s : State) :
    (retirementState c d s).uplink = match c with | .memDataReceived .. => acceptedUplink s | _ => s.uplink := by
  cases c <;> rfl

theorem retirementState_setCommand (c : Instr) (d : Time) (s : State) (k : CommandUnit) :
    retirementState c d (s.setCommand k) = (retirementState c d s).setCommand k := by
  cases c <;> rfl

/-- A tag's end is the retirement with its result, at its time (R54, R55, R56). -/
theorem exec_tagEnds {c : Instr} {i : TagIx} {q : Request} {d time : Time} {result : FetchResult} {s : State}
    (state : (s.tracker.tags.get i).state = .outstanding q d) (h : TagEnds c i q d result time s) :
    exec c s = .next (finishRequest i q result (retirementState c d s)) ∧ (retirementState c d s).now = time := by
  obtain ⟨rfl, rfl, rfl⟩ | ⟨seq, ackSeq, tag, status, x, y, data, order, length, rfl, index, generation, rfl, outcome⟩ := h
  · refine ⟨?_, rfl⟩
    simp only [exec, execReadTimeoutExpiry, state]
    rfl
  · refine ⟨?_, rfl⟩
    have below : tagIndex tag < 16 := index ▸ i.isLt
    have named : (⟨tagIndex tag, below⟩ : TagIx) = i := Fin.ext index
    have checked : completionResult q status data = result := by
      unfold completionResult
      obtain ⟨bad, rfl⟩ | ⟨rfl, other, rfl⟩ | ⟨rfl, same, rfl⟩ := outcome
      · rw [if_pos bad]
      · simp [other]
      · simp [same]
    rw [exec_memData_inOrder order (by simp) (by simp; omega)]
    simp only [memData, List.cons_append, List.getD_cons_zero, below, dif_pos, named, State.setUplink_tracker, state]
    rw [if_pos generation.symm]
    exact congrArg Host.Outcome.next (congrArg (fun x => finishRequest i q x _) checked)

/-- The results with which a tag ends make no fencing fault (R55, R56, R141). -/
theorem harmless_of_tagEnds {c : Instr} {i : TagIx} {q : Request} {d time : Time} {result : FetchResult} {s : State}
    (h : TagEnds c i q d result time s) : result.harmless := by
  obtain ⟨rfl, rfl, rfl⟩ | ⟨_, _, _, _, _, _, _, _, _, _, _, _, _, outcome⟩ := h
  · rfl
  · obtain ⟨_, rfl⟩ | ⟨_, _, rfl⟩ | ⟨_, _, rfl⟩ := outcome
    · rfl
    · rfl
    · trivial

/-! ### Operations that do not look at the Command Unit -/

/-- The operation neither reads nor writes the Command Unit. -/
def CommandBlind (f : State → State) : Prop := ∀ s k, f (s.setCommand k) = (f s).setCommand k

theorem commandBlind_comp {f g : State → State} (hf : CommandBlind f) (hg : CommandBlind g) : CommandBlind (fun s => f (g s)) :=
  fun s k => (congrArg f (hg s k)).trans (hf _ k)

theorem commandBlind_ite {p : State → Prop} [DecidablePred p] (same : ∀ s k, p (s.setCommand k) ↔ p s) {f g : State → State}
    (hf : CommandBlind f) (hg : CommandBlind g) : CommandBlind (fun s => if p s then f s else g s) := by
  intro s k
  by_cases h : p s
  · simp only [if_pos ((same s k).mpr h), if_pos h, hf s k]
  · simp only [if_neg (mt (same s k).mp h), if_neg h, hg s k]

theorem closeLine_blind (i : LineIx) : CommandBlind (fun s => closeLine s i) := by
  intro s k
  simp only [closeLine]
  rw [show lineAt i (s.setCommand k) = lineAt i s from rfl]
  split <;> rfl

theorem foldl_closeLine_blind (order : List LineIx) : CommandBlind (fun s => order.foldl closeLine s) := by
  induction order with
  | nil => exact fun s k => rfl
  | cons i order ih => exact commandBlind_comp ih (closeLine_blind i)

theorem quiesceSlot_blind (slot : Slot) : CommandBlind (quiesceSlot slot) := by
  intro s k
  have closed : closeGathering slot (s.setCommand k) = (closeGathering slot s).setCommand k :=
    foldl_closeLine_blind (gatheringWhere (fun b => b.slot == slot) s) s k
  rw [quiesceSlot, closed]
  rfl

theorem fence_blind (slot : Slot) : CommandBlind (fence slot) :=
  commandBlind_ite (fun _ _ => Iff.rfl) (fun _ _ => rfl) fun s k =>
    quiesceSlot_blind slot (setSlot slot { s.bus.slots.get slot with fenced := true } s) k

theorem takeFault_blind (r : FaultReport) : CommandBlind (takeFault r) := by
  have admits : ∀ fenced, CommandBlind (admitFault r fenced) := fun fenced =>
    commandBlind_ite (fun _ _ => Iff.rfl) (fun _ _ => rfl) fun _ _ => rfl
  have marks : CommandBlind (markSummary r) := fun s k => by
    unfold markSummary
    split <;> rfl
  have fences : CommandBlind (applyAutofence r) := by
    cases slot : r.slot with
    | none => exact fun s k => by simp [applyAutofence, slot]
    | some x =>
      have shape : applyAutofence r = fun s => if autofences r s then fence x s else s := by
        funext s
        simp [applyAutofence, slot]
      rw [shape]
      exact commandBlind_ite (fun _ _ => Iff.rfl) (fence_blind x) fun _ _ => rfl
  intro s k
  simp only [takeFault]
  rw [marks s k, fences _ k, admits _ _ k]
  rfl

/-! ### The end of an episode -/

/-- The refusal of an EXCL_BEGIN is recorded, and the slot is in AbortNext (R103). -/
def refusedBegin (slot : Slot) (s : State) : State :=
  let refused := takeFault { kind := .exclRefused, slot := some slot } s
  refused.setLocks { refused.locks with abortNext := refused.locks.abortNext ||| slotBit slot }

theorem refusedBegin_blind (slot : Slot) : CommandBlind (refusedBegin slot) := by
  intro s k
  simp only [refusedBegin, takeFault_blind _ s k]
  rfl

theorem finishRequest_exclBegin {i : TagIx} {q : Request} (result : FetchResult) {s : State} (purpose : q.purpose = .exclBegin) :
    finishRequest i q result s = beginResult ⟨i, (s.tracker.tags.get i).generation⟩ result (retireTag i s) := by
  simp only [finishRequest, handOver, purpose]
  cases result <;> simp only [requestFault, purpose]

/-- An EXCL_BEGIN that fails in REQUESTED ends the episode (R103). -/
theorem finishRequest_refused {i : TagIx} {q : Request} {kind : FaultKind} {ep : Episode} {s : State}
    (purpose : q.purpose = .exclBegin) (episode : s.locks.episode = some ep) (state : ep.state = .requested)
    (tag : ep.beginTag = some ⟨i, (s.tracker.tags.get i).generation⟩) :
    finishRequest i q (.error kind) s = toNone (refusedBegin ep.slot (retireTag i s)) := by
  have episode' : (retireTag i s).locks.episode = some ep := by simpa using episode
  rw [finishRequest_exclBegin _ purpose, beginResult, episode']
  simp only [tag, ne_eq, not_true_eq_false, if_false, state]
  rfl

/-- A step that ends the episode returns it to NONE on a state that the Command Unit has not decided (R109, R10). -/
theorem endsEpisode_toNone {i : Instr} {ep : Episode} {s : State} (h : EndsEpisode i ep s) (episode : s.locks.episode = some ep) :
    ∃ v : State, v.command = s.command ∧ ∀ k, exec i (s.setCommand k) = .next (toNone (v.setCommand k)) := by
  obtain ⟨rfl, state, unqueued⟩ | ⟨rfl, state, unended, room⟩ | ⟨rfl, ended, room⟩ | ⟨rfl, state, unqueued, d, limit⟩ |
    ⟨tagIx, q, d, time, kind, state, tag, outstanding, purpose, ends⟩ := h
  · refine ⟨dropEpisodeDrain ep.slot s, by simp, fun k => congrArg Host.Outcome.next ?_⟩
    simp [lockReport, episode, state, unqueued]
    rfl
  · refine ⟨joinPosted ep.slot .exclEnd ep.hostAddress true s, by simp, fun k => congrArg Host.Outcome.next ?_⟩
    have admitted : postedRoom (s.setCommand k) = true := postedRoom_iff.mpr room
    simp [lockReport, episode, state, unended, postEnd, admitted, joinEnd]
    rfl
  · refine ⟨joinPosted ep.slot .exclEnd ep.hostAddress true s, by simp, fun k => congrArg Host.Outcome.next ?_⟩
    have admitted : postedRoom (s.setCommand k) = true := postedRoom_iff.mpr room
    simp [episode, ended, admitted, joinEnd]
    rfl
  · refine ⟨dropEpisodeDrain ep.slot (takeFault { kind := .exclOverrun, slot := some ep.slot } (passTo d s)), by simp,
      fun k => congrArg Host.Outcome.next ?_⟩
    have taken := takeFault_blind { kind := .exclOverrun, slot := some ep.slot } (passTo d s) k
    simp only [State.setCommand_locks, episode, limit, expireEpisode, state, unqueued, Bool.false_eq_true, if_false]
    exact congrArg (fun x => toNone (dropEpisodeDrain ep.slot x)) taken
  · refine ⟨refusedBegin ep.slot (retireTag tagIx (retirementState i d s)), by simp [refusedBegin], fun k => ?_⟩
    rw [(exec_tagEnds (s := s.setCommand k) outstanding ends).1, retirementState_setCommand,
      finishRequest_refused purpose (by simpa using episode) state (by simpa using tag)]
    exact congrArg (fun x => Host.Outcome.next (toNone x)) (refusedBegin_blind ep.slot (retireTag tagIx (retirementState i d s)) k)

/-- A map command that waits starts once the episode is NONE (R10; log 9). -/
theorem startWaiting_starts {x : Executing} {c : Command} {f : State → State} {s : State} (executing : s.command.executing = some x)
    (wait : x.wait = .episode) (parsed : parseCommand x.code x.args = some c) (start : mapStart c = some f) :
    startWaiting s = f (s.setCommand { s.command with executing := some { x with wait := .none } }) := by
  unfold startWaiting
  simp only [executing, wait, if_true, parsed, Option.bind_some, start]
  rw [setWait_executing executing]

theorem startWaiting_none {x : Executing} {s : State} (executing : s.command.executing = some x) (wait : x.wait ≠ .episode) :
    startWaiting s = s := by
  simp [startWaiting, executing, wait]

theorem mapStart_of_isMapCommand {c : Command} (h : IsMapCommand c) : ∃ f, mapStart c = some f := by
  obtain ⟨first, records, rfl⟩ | ⟨first, count, rfl⟩ | ⟨on, base, rfl⟩ := h <;> exact ⟨_, rfl⟩

/-- The map command that waited starts on the state that the step makes without it (R10; log 9). -/
theorem waiting_started {x : Executing} {c : Command} {i : Instr} {ep : Episode} {s u : State}
    (executing : s.command.executing = some x) (wait : x.wait = .episode) (parsed : parseCommand x.code x.args = some c)
    (map : IsMapCommand c) (episode : s.locks.episode = some ep) (ends : EndsEpisode i ep s)
    (run : exec i (s.setCommand { s.command with executing := some { x with wait := .none } }) = .next u) :
    ∃ t, exec i s = .next t ∧ u.locks.episode = none ∧
      u.command = { s.command with executing := some { x with wait := .none } } ∧ MapStarted x c u t := by
  obtain ⟨v, command, runs⟩ := endsEpisode_toNone ends episode
  obtain ⟨f, start⟩ := mapStart_of_isMapCommand map
  have now : exec i s = .next (toNone v) := by
    have stays : v.setCommand s.command = v := command ▸ rfl
    exact stays ▸ runs s.command
  have other : u = setEpisode none (v.setCommand { s.command with executing := some { x with wait := .none } }) := by
    rw [runs] at run
    rw [← Host.Outcome.next.inj run, toNone]
    exact startWaiting_none (x := { x with wait := .none }) rfl (by simp)
  have started : toNone v = f u := by
    rw [toNone, startWaiting_starts (s := setEpisode none v) (by simpa [command] using executing) wait parsed start, other]
    simp only [setEpisode_frame, command]
    rfl
  have executing' : u.command.executing = some { x with wait := .none } := by
    rw [other]
    rfl
  refine ⟨f u, started ▸ now, by rw [other]; rfl, by rw [other]; rfl, ?_⟩
  have begun := mapStart_started executing' start
  exact begun

end Sys2Proof.Machine

namespace Sys2Proof

open Sys2Proof.Machine

/-- Settles O25: the end of the episode starts the command on the state that the step makes without it. -/
theorem mapCommandsWaitForEpisode : Obligations.MapCommandsWaitForEpisode := by
  refine ⟨fun e rest c i ep s heads row episode => ?_, fun x first count ep s executing wait parsed episode state unqueued => ?_,
    fun x c i ep s u executing wait parsed map episode ends run =>
      waiting_started executing wait parsed map episode ends run⟩
  · have wait : ∀ {start : Command → Option (State → State)} {f : State → State}, orderedStart i = some start →
        start c = some (startUnlessEpisode f) →
        ∃ t, exec i s = .next t ∧ OnlyChanges [.command, .uplink] s t ∧ CreditReturned s t ∧ Waits e rest .episode s t := by
      intro start f ho hs
      have running : (beginHead e rest s).locks.episode = some ep := by simpa using episode
      have waits : startUnlessEpisode f (beginHead e rest s) = setWait .episode (beginHead e rest s) := by
        rw [startUnlessEpisode, running]
      rw [(exec_heads ho heads hs).1, waits]
      exact ⟨_, rfl, by simp [onlyChanges_iff], creditReturned_of_uplink e rest (by simp), waits_setWait rfl _⟩
    obtain ⟨rfl, first, records, rfl⟩ | ⟨rfl, first, count, rfl⟩ | ⟨rfl, on, base, rfl⟩ := row
    · exact wait rfl rfl
    · exact wait rfl rfl
    · exact wait rfl rfl
  · have alone : exec (.lockRelease ep.slot) (s.setCommand { s.command with executing := some { x with wait := .none } }) =
        .next (setEpisode none (dropEpisodeDrain ep.slot
          (s.setCommand { s.command with executing := some { x with wait := .none } }))) := by
      refine congrArg Host.Outcome.next ?_
      simp only [lockReport, State.setCommand_locks, episode, ne_eq, not_true_eq_false, if_false, state, unqueued,
        Bool.false_eq_true, toNone]
      exact startWaiting_none (x := { x with wait := .none }) (by simp) (by simp)
    obtain ⟨t, run, free, command, frame, settings, drains, on, base, entries, quieted, drain, begun⟩ :=
      waiting_started executing wait parsed (.inr (.inl ⟨first, count, rfl⟩)) episode (.inl ⟨rfl, state, unqueued⟩) alone
    have left : OnlyChanges [.staging, .command, .locks] s (setEpisode none (dropEpisodeDrain ep.slot
        (s.setCommand { s.command with executing := some { x with wait := .none } }))) := by
      simp [onlyChanges_iff]
    obtain ⟨kept, _⟩ := id frame
    refine ⟨t, run, onlyChanges_trans left frame (by simp) (by simp), ?_, ?_, ?_⟩
    · rw [show t.locks = _ from kept .locks (by simp)]
      simp [setEpisode]
    · simpa using entries
    · simpa [LinesQuieted, ClosedAppended, lineAt, dropEpisodeDrain, setDrains] using quieted

end Sys2Proof
end

section
/-! COMMAND frames on their arrival and the Held entries: refusals, EVENT_ACK and STATUS_QUERY. -/

namespace Sys2Proof.Machine

/-! ### The verdict on a command -/

theorem knownCode_of_parse {code : Byte} {args : List Byte} {c : Command} (h : parseCommand code args = some c) :
    knownCode code = true := by
  unfold parseCommand at h
  split at h <;> simp_all [knownCode]

/-- The command is refused with this result (R155 rows 4 to 6). -/
def RefusedWith (tag : BitVec 16) (code : Byte) (args : List Byte) (result : ResultCode) (s : State) : Prop :=
  (tagInUse tag s.command = true ∧ result = .tagInUse) ∨
    (tagInUse tag s.command = false ∧ knownCode code = false ∧ result = .unknownCommand) ∨
    (tagInUse tag s.command = false ∧ knownCode code = true ∧ argumentsPass s.pageMap code args = false ∧
      result = .badArgument)

theorem verdict_refused {f : CommandFrame} {result : ResultCode} {s : State}
    (h : RefusedWith f.tag f.code f.args result s) : verdict f s = .refused result := by
  obtain ⟨used, rfl⟩ | ⟨unused, unknown, rfl⟩ | ⟨unused, known, fails, rfl⟩ := h
  · simp [verdict, used]
  · simp [verdict, unused, unknown]
  · simp [verdict, unused, known, fails]

/-- What becomes of a command that is not refused (R155 rows 7 and 8). -/
def passedVerdict : Option Command → Verdict
  | some (.eventAck slot seq) => .eventAck slot seq
  | some (.statusQuery x) => .statusQuery x
  | _ => .ordered

theorem verdict_passed {f : CommandFrame} {s : State} (unused : tagInUse f.tag s.command = false)
    (passes : argumentsPass s.pageMap f.code f.args = true) : verdict f s = passedVerdict (parseCommand f.code f.args) := by
  have known : knownCode f.code = true := by
    cases parsed : parseCommand f.code f.args with
    | none => simp [argumentsPass, parsed] at passes
    | some c => exact knownCode_of_parse parsed
  simp only [verdict, unused, known, passes, Bool.false_eq_true, Bool.not_true, if_false]
  rfl

theorem verdict_eventAck {f : CommandFrame} {slot : Slot} {n : BitVec 8} {s : State}
    (unused : tagInUse f.tag s.command = false) (parsed : parseCommand f.code f.args = some (.eventAck slot n)) :
    verdict f s = .eventAck slot n := by
  rw [verdict_passed unused (by simp [argumentsPass, parsed]), parsed, passedVerdict]

theorem verdict_statusQuery {f : CommandFrame} {x : StatusSection} {s : State}
    (unused : tagInUse f.tag s.command = false) (parsed : parseCommand f.code f.args = some (.statusQuery x)) :
    verdict f s = .statusQuery x := by
  rw [verdict_passed unused (by simp [argumentsPass, parsed]), parsed, passedVerdict]

theorem verdict_ordered {f : CommandFrame} {s : State} (unused : tagInUse f.tag s.command = false)
    (passes : argumentsPass s.pageMap f.code f.args = true)
    (noAck : ∀ slot n, parseCommand f.code f.args ≠ some (.eventAck slot n))
    (noQuery : ∀ x, parseCommand f.code f.args ≠ some (.statusQuery x)) : verdict f s = .ordered := by
  rw [verdict_passed unused passes]
  unfold passedVerdict
  split
  · exact absurd ‹_› (noAck _ _)
  · exact absurd ‹_› (noQuery _)
  · rfl

/-- The commands that are answered on arrival, if a reply can be queued (R155 rows 4 to 7). -/
theorem verdict_not_ordered {f : CommandFrame} {s : State}
    (h : tagInUse f.tag s.command = true ∨ argumentsPass s.pageMap f.code f.args = false ∨
      (∃ slot n, parseCommand f.code f.args = some (.eventAck slot n)) ∨
      ∃ x, parseCommand f.code f.args = some (.statusQuery x)) : verdict f s ≠ .ordered := by
  cases used : tagInUse f.tag s.command with
  | true => simp [verdict, used]
  | false =>
    obtain used' | fails | ⟨slot, n, parsed⟩ | ⟨x, parsed⟩ := h
    · simp [used] at used'
    · cases known : knownCode f.code with
      | false => simp [verdict, used, known]
      | true => simp [verdict, used, known, fails]
    · simp [verdict_eventAck used parsed]
    · simp [verdict_statusQuery used parsed]

/-! ### Answers on arrival -/

theorem returnCredit_returns (s : State) : CreditReturned s (returnCredit s) := by
  unfold returnCredit
  split
  · exact ⟨⟨_, rfl⟩, fun _ => rfl⟩
  · next full => exact ⟨⟨_, rfl⟩, fun low => absurd low full⟩

theorem creditReturned_congr {s t u : State} (h : t.uplink = u.uplink) : CreditReturned s t ↔ CreditReturned s u := by
  simp [CreditReturned, h]

theorem acceptedWithCredit_iff {s t : State} :
    AcceptedWithCredit s t ↔ CreditReturned (s.setUplink (acceptedUplink s)) t := Iff.rfl

theorem answerArrival_spec (f : CommandFrame) (result : ResultCode) (body : List Byte) (s : State) :
    OnlyChanges [.uplink, .command] s (answerArrival f result body s) ∧ CreditReturned s (answerArrival f result body s) ∧
      (answerArrival f result body s).command =
        { s.command with replies := s.command.replies ++ [.reply f.tag f.code result body] } :=
  ⟨onlyChanges_mono (answerArrival_changes f result body s) (by simp), returnCredit_returns (queueReport _ s), by
    simp [answerArrival, queueReport]⟩

/-! ### EVENT_ACK -/

theorem ackMatches_iff {slot : Slot} {n : BitVec 8} {s : State} : ackMatches slot n s = true ↔ Acknowledges slot n s := by
  unfold ackMatches Acknowledges
  split
  · simp_all
  · rename_i other
    simp only [Bool.false_eq_true, false_iff]
    rintro ⟨⟨d, sent⟩, _⟩
    exact other d sent

/-- The Event Unit with the acknowledged event ended and its offered frame withdrawn (R133). -/
def acknowledgedEvents (slot : Slot) (s : State) : EventUnit :=
  { s.events with
    records :=
      s.events.records.set slot { eventAt slot s with state := .idle, seq := (eventAt slot s).seq + 1, resend := false }
    offered := s.events.offered.filter (fun f => f.slot ≠ slot) }

theorem acknowledge_eq (slot : Slot) (s : State) : acknowledge slot s = lookAtLine slot (s.setEvents (acknowledgedEvents slot s)) :=
  rfl

/-- The two states agree on what the Event Unit looks at. -/
def EventsAgree (s u : State) : Prop :=
  u.events = s.events ∧ u.staging = s.staging ∧ u.tracker = s.tracker ∧ u.bus = s.bus ∧
    u.uplink.linkState = s.uplink.linkState

theorem acknowledges_congr {slot : Slot} {n : BitVec 8} {s u : State} (h : u.events = s.events) :
    Acknowledges slot n u ↔ Acknowledges slot n s := by
  simp [Acknowledges, eventAt, h]

theorem raisable_congr {slot : Slot} {s u : State} (h : EventsAgree s u) : Raisable slot u ↔ Raisable slot s := by
  obtain ⟨events, _, _, bus, _⟩ := h
  simp [Raisable, eventAt, events, bus]

theorem raised_congr {slot : Slot} {s u t : State} (h : EventsAgree s u) (raised : Raised slot u t) : Raised slot s t := by
  obtain ⟨events, staging, tracker, bus, link⟩ := h
  simpa [Raised, LinesQuieted, ClosedAppended, SettingsKept, MarksKept, untransmitted, hasPosted, eventAt, lineAt, events, staging, tracker,
    link] using raised

theorem lookAtLine_decides {slot : Slot} {s u : State} (h : EventsAgree s u) :
    (Raisable slot s → Raised slot s (lookAtLine slot u)) ∧
      (¬ Raisable slot s → (lookAtLine slot u).events = s.events ∧ (lookAtLine slot u).staging = s.staging) := by
  refine ⟨fun raisable => raised_congr h (lookAtLine_raised ((raisable_congr h).mpr raisable)), fun idle => ?_⟩
  rw [lookAtLine_idle (mt (raisable_congr h).mp idle)]
  exact ⟨h.1, h.2.1⟩

theorem acknowledged_agree {slot : Slot} {s u : State} (h : EventsAgree s u) :
    EventsAgree (s.setEvents (acknowledgedEvents slot s)) (u.setEvents (acknowledgedEvents slot u)) := by
  obtain ⟨events, staging, tracker, bus, link⟩ := h
  exact ⟨by simp [acknowledgedEvents, eventAt, events], staging, tracker, bus, link⟩

theorem runEventAck_ackDecided (f : CommandFrame) {slot : Slot} {n : BitVec 8} {s u : State} (h : EventsAgree s u) :
    AckDecided slot n s (runEventAck f slot n u) := by
  have answered : ∀ result, EventsAgree s (answerArrival f result [] u) := by
    obtain ⟨events, staging, tracker, bus, link⟩ := h
    intro result
    refine ⟨by simpa using events, by simpa using staging, by simpa using tracker, by simpa using bus, ?_⟩
    obtain ⟨⟨c, uplink⟩, _⟩ := (answerArrival_spec f result [] u).2.1
    rw [uplink]
    exact link
  have same : ackMatches slot n u = true ↔ Acknowledges slot n s := ackMatches_iff.trans (acknowledges_congr h.1)
  unfold runEventAck
  refine ⟨fun acks => ?_, fun other => ?_⟩
  · rw [if_pos (same.mpr acks), acknowledge_eq]
    exact ⟨_, rfl, lookAtLine_decides (acknowledged_agree (answered .ok))⟩
  · rw [if_neg (mt same.mp other)]
    exact ⟨(answered .badSequence).1, (answered .badSequence).2.1⟩

theorem runEventAck_spec (f : CommandFrame) (slot : Slot) (n : BitVec 8) (s : State) :
    OnlyChanges [.uplink, .command, .events, .staging] s (runEventAck f slot n s) ∧
      CreditReturned s (runEventAck f slot n s) ∧ (runEventAck f slot n s).events.lines = s.events.lines ∧
      (runEventAck f slot n s).command =
        { s.command with
          replies := s.command.replies ++ [.reply f.tag f.code (if ackMatches slot n s then .ok else .badSequence) []] } := by
  have plain := fun result => (answerArrival_spec f result [] s)
  unfold runEventAck
  split
  · obtain ⟨frame, credit, command⟩ := plain .ok
    refine ⟨onlyChanges_trans frame (acknowledge_changes slot _) (by simp) (by simp),
      (creditReturned_congr (by simp)).mpr credit, ?_, by simpa using command⟩
    rw [acknowledge_eq, lookAtLine_lines]
    simp [acknowledgedEvents]
  · obtain ⟨frame, credit, command⟩ := plain .badSequence
    exact ⟨onlyChanges_mono frame (by simp), credit, by simp, command⟩

/-! ### Arrival -/

theorem arrive_command {t1 t0 code reserved : Byte} {args : List Byte} {s : State} :
    arrive ([t1, t0, code, reserved] ++ args) s =
      if 8 ≤ s.command.queue.length then takeFault { kind := .commandOverflow } s
      else decideArrival ⟨BitVec.ofNat 16 (u16 t1 t0), code, args⟩ s := rfl

theorem arrive_short {p : List Byte} {s : State} (h : p.length < 4) : arrive p s = returnCredit s := by
  have none : commandFrame p = none := by
    match p, h with
    | [], _ => rfl
    | [_], _ => rfl
    | [_, _], _ => rfl
    | [_, _, _], _ => rfl
  simp [arrive, none]

theorem decideArrival_ordered {f : CommandFrame} {s : State} (h : verdict f s = .ordered) :
    decideArrival f s = enqueue f false s := by
  simp [decideArrival, h]

theorem decideArrival_answered {f : CommandFrame} {s : State} (h : verdict f s ≠ .ordered)
    (room : s.command.replies.length ≤ 6) : decideArrival f s = answer f (verdict f s) s := by
  unfold decideArrival
  split
  · exact absurd ‹_› h
  · simp [answerAdmitted, room]

theorem decideArrival_held {f : CommandFrame} {s : State} (h : verdict f s ≠ .ordered)
    (full : 7 ≤ s.command.replies.length) : decideArrival f s = enqueue f true s := by
  unfold decideArrival
  split
  · exact absurd ‹_› h
  · simp [answerAdmitted, Nat.not_le.mpr full]

/-! ### Held entries -/

theorem oldestHeld_found {before after : List CommandEntry} {e : CommandEntry} (free : ∀ x ∈ before, x.held = false)
    (held : e.held = true) : oldestHeld (before ++ e :: after) = some (before, e, after) := by
  induction before with
  | nil => simp [oldestHeld, held]
  | cons x before ih =>
    simp [oldestHeld, free x (by simp), ih fun y member => free y (by simp [member])]

theorem exec_heldEntryTaken {before after : List CommandEntry} {e : CommandEntry} {s : State}
    (queue : s.command.queue = before ++ e :: after) (free : ∀ x ∈ before, x.held = false) (held : e.held = true)
    (room : s.command.replies.length ≤ 6) : exec .heldEntryTaken s = .next (takeHeld before e after s) := by
  refine congrArg Host.Outcome.next ?_
  rw [queue, oldestHeld_found free held]
  simp [answerAdmitted, room]

theorem takeHeld_ordered {before after : List CommandEntry} {e : CommandEntry} {s : State}
    (h : verdict ⟨e.tag, e.code, e.args⟩ s = .ordered) :
    takeHeld before e after s =
      s.setCommand { s.command with queue := before ++ { e with held := false } :: after } := by
  simp [takeHeld, h]

theorem takeHeld_answered {before after : List CommandEntry} {e : CommandEntry} {s : State}
    (h : verdict ⟨e.tag, e.code, e.args⟩ s ≠ .ordered) :
    takeHeld before e after s =
      answer ⟨e.tag, e.code, e.args⟩ (verdict ⟨e.tag, e.code, e.args⟩ s)
        (s.setCommand { s.command with queue := before ++ after }) := by
  unfold takeHeld
  dsimp only
  split
  · exact absurd ‹_› h
  · rfl

end Sys2Proof.Machine

namespace Sys2Proof

open Sys2Proof.Machine

/-- Settles O58, by the verdict on the frame. -/
theorem commandsAreJudgedOnArrival : Obligations.CommandsAreJudgedOnArrival := by
  intro seq ackSeq s order
  have accepted : OnlyChanges [.uplink] s (s.setUplink (acceptedUplink s)) := by simp [onlyChanges_iff]
  refine ⟨fun p short => ?_, fun t1 t0 code reserved args tag length tagged => ?_⟩
  · refine ⟨_, exec_command_inOrder order (by omega), ?_, ?_⟩
    · rw [arrive_short short]
      simp [onlyChanges_iff]
    · rw [arrive_short short]
      exact returnCredit_returns _
  subst tagged
  refine ⟨_, exec_command_inOrder order (by simp; omega), ?_⟩
  rw [arrive_command]
  generalize hu : s.setUplink (acceptedUplink s) = u at accepted
  generalize hf : (⟨BitVec.ofNat 16 (u16 t1 t0), code, args⟩ : CommandFrame) = f
  have command : u.command = s.command := hu ▸ rfl
  have pageMap : u.pageMap = s.pageMap := hu ▸ rfl
  have uplink : u.uplink = acceptedUplink s := hu ▸ rfl
  have credit : ∀ {t}, CreditReturned u t → AcceptedWithCredit s t := fun h => acceptedWithCredit_iff.mpr (hu ▸ h)
  have answered : ∀ result body, OnlyChanges [.uplink, .command] s (answerArrival f result body u) ∧
      AcceptedWithCredit s (answerArrival f result body u) ∧
      (answerArrival f result body u).command =
        { s.command with replies := s.command.replies ++ [.reply f.tag f.code result body] } := fun result body => by
    obtain ⟨frame, returned, replies⟩ := answerArrival_spec f result body u
    exact ⟨onlyChanges_trans accepted frame (by simp) (by simp), credit returned, command ▸ replies⟩
  have queued : ∀ held, OnlyChanges [.uplink, .command] s (enqueue f held u) ∧ (enqueue f held u).uplink = acceptedUplink s ∧
      (enqueue f held u).command = { s.command with queue := s.command.queue ++ [⟨f.tag, f.code, f.args, held⟩] } :=
    fun held => ⟨onlyChanges_trans accepted (enqueue_changes f held u) (by simp) (by simp), by simpa using uplink, by
      simp [enqueue, command]⟩
  subst hf
  refine ⟨fun full => ?_, fun result place room refused => ?_, fun place full kinds => ?_, fun x place room unused parsed => ?_,
    fun place unused passes noAck noQuery => ?_⟩
  · rw [command, if_pos full]
    refine ⟨onlyChanges_trans accepted (takeFault_changes u rfl) (by simp) (by simp), by simpa using uplink, ?_⟩
    have taken := takeFault_taken { kind := .commandOverflow } u
    rw [autofences_no_slot rfl] at taken
    subst hu
    exact taken
  all_goals rw [command, if_neg (Nat.not_le.mpr place)]
  · have judged : verdict ⟨BitVec.ofNat 16 (u16 t1 t0), code, args⟩ u = .refused result :=
      verdict_refused (by simpa only [RefusedWith, command, pageMap] using refused)
    rw [decideArrival_answered (by simp [judged]) (command ▸ room), judged]
    exact answered result []
  · rw [decideArrival_held (verdict_not_ordered (by simpa only [command, pageMap] using kinds)) (command ▸ full)]
    exact queued true
  · have judged : verdict ⟨BitVec.ofNat 16 (u16 t1 t0), code, args⟩ u = .statusQuery x :=
      verdict_statusQuery (command ▸ unused) parsed
    rw [decideArrival_answered (by simp [judged]) (command ▸ room), judged]
    obtain ⟨frame, returned, replies⟩ := answered .ok (sectionRecord x u)
    exact ⟨frame, returned, u, rfl, replies⟩
  · rw [decideArrival_ordered (verdict_ordered (command ▸ unused) (pageMap ▸ passes) noAck noQuery)]
    exact queued false

/-- Settles O59: the frame is judged an EVENT_ACK, and that compares it with the record. -/
theorem eventAckMatchesRecord : Obligations.EventAckMatchesRecord := by
  intro seq ackSeq t1 t0 reserved sl n x y tag slot s order place room tagged unused named
  subst tagged
  have parsed : parseCommand 0x0C [sl, n, x, y] = some (.eventAck slot n) := by
    have found : slotOf sl = some slot := by simp [slotOf, named]
    simp [parseCommand, parseEventAck, found]
  refine ⟨_, exec_command_inOrder order (p := [t1, t0, 0x0C, reserved] ++ [sl, n, x, y]) (by simp), ?_⟩
  rw [arrive_command, if_neg (by simpa using place)]
  have judged : verdict ⟨BitVec.ofNat 16 (u16 t1 t0), 0x0C, [sl, n, x, y]⟩ (s.setUplink (acceptedUplink s)) =
      .eventAck slot n := verdict_eventAck (by simpa using unused) parsed
  rw [decideArrival_answered (s := s.setUplink (acceptedUplink s)) (judged ▸ Verdict.noConfusion) room, judged]
  simp only [answer]
  have agree : EventsAgree s (s.setUplink (acceptedUplink s)) := ⟨rfl, rfl, rfl, rfl, rfl⟩
  obtain ⟨frame, returned, lines, command⟩ := runEventAck_spec ⟨BitVec.ofNat 16 (u16 t1 t0), 0x0C, [sl, n, x, y]⟩ slot n
    (s.setUplink (acceptedUplink s))
  obtain ⟨acked, other⟩ := runEventAck_ackDecided ⟨BitVec.ofNat 16 (u16 t1 t0), 0x0C, [sl, n, x, y]⟩ (slot := slot) (n := n) agree
  have same : ackMatches slot n (s.setUplink (acceptedUplink s)) = true ↔ Acknowledges slot n s := ackMatches_iff
  refine ⟨onlyChanges_trans (c := [.uplink]) (by simp [onlyChanges_iff]) frame (by simp) (by simp), returned, lines,
    fun acks => ⟨?_, acked acks⟩, fun differs => ?_⟩
  · rw [command, if_pos (same.mpr acks)]
    rfl
  · have fails : ¬ Acknowledges slot n s := by
      rintro ⟨⟨d, sent⟩, number, resend⟩
      obtain unsent | otherSeq | fresh := differs
      · exact unsent d sent
      · exact otherSeq number
      · simp [resend] at fresh
    obtain ⟨events, staging⟩ := other fails
    rw [command, if_neg (mt same.mp fails)]
    exact ⟨events, staging, rfl⟩

/-- Settles O60: the oldest Held entry is judged again, by the rows of its arrival. -/
theorem heldEntryIsTaken : Obligations.HeldEntryIsTaken := by
  intro before after e s queue free held room
  refine ⟨_, exec_heldEntryTaken queue free held room, ?_⟩
  have removed : OnlyChanges [.command] s (s.setCommand { s.command with queue := before ++ after }) := by
    simp [onlyChanges_iff]
  refine ⟨fun result refused => ?_, fun x unused parsed => ?_, fun slot n unused parsed => ?_, fun unused passes noAck noQuery => ?_⟩
  · have judged : verdict ⟨e.tag, e.code, e.args⟩ s = .refused result := verdict_refused refused
    rw [takeHeld_answered (by simp [judged]), judged]
    obtain ⟨frame, returned, replies⟩ := answerArrival_spec ⟨e.tag, e.code, e.args⟩ result []
      (s.setCommand { s.command with queue := before ++ after })
    exact ⟨onlyChanges_trans removed frame (by simp) (by simp), returned, replies⟩
  · have judged : verdict ⟨e.tag, e.code, e.args⟩ s = .statusQuery x := verdict_statusQuery unused parsed
    rw [takeHeld_answered (by simp [judged]), judged]
    obtain ⟨frame, returned, replies⟩ := answerArrival_spec ⟨e.tag, e.code, e.args⟩ .ok
      (sectionRecord x (s.setCommand { s.command with queue := before ++ after }))
      (s.setCommand { s.command with queue := before ++ after })
    exact ⟨onlyChanges_trans removed frame (by simp) (by simp), returned, _, rfl, replies⟩
  · have judged : verdict ⟨e.tag, e.code, e.args⟩ s = .eventAck slot n := verdict_eventAck unused parsed
    rw [takeHeld_answered (by simp [judged]), judged]
    obtain ⟨frame, returned, lines, command⟩ := runEventAck_spec ⟨e.tag, e.code, e.args⟩ slot n
      (s.setCommand { s.command with queue := before ++ after })
    have same : ackMatches slot n (s.setCommand { s.command with queue := before ++ after }) = true ↔ Acknowledges slot n s :=
      ackMatches_iff
    exact ⟨onlyChanges_trans removed frame (by simp) (by simp), returned, lines,
      runEventAck_ackDecided _ ⟨rfl, rfl, rfl, rfl, rfl⟩, _, fun acks => if_pos (same.mpr acks),
      fun differs => if_neg (mt same.mp differs), command⟩
  · rw [takeHeld_ordered (verdict_ordered unused passes noAck noQuery)]
    exact ⟨by simp [onlyChanges_iff], rfl⟩

end Sys2Proof
end

section
/-! Results of fetches and of the EXCL_BEGIN, and the comparison of a sequenced frame. -/

namespace Sys2Proof.Machine

/-! ### Results of fetches -/

theorem memData_unexpected {tag status x y : Byte} {data : List Byte} {s : State}
    (h : ∀ i : TagIx, i.val = tagIndex tag → ∀ q d, (s.tracker.tags.get i).state = .outstanding q d →
      (s.tracker.tags.get i).generation ≠ tagGeneration tag) :
    memData ([tag, status, x, y] ++ data) s = takeFault { kind := .unexpectedCompletion, tag := some tag } s := by
  simp only [memData, List.cons_append, List.getD_cons_zero]
  split
  · split
    · exact if_neg (h _ rfl _ _ ‹_›)
    · rfl
  · rfl

theorem retireTag_tracker (i : TagIx) (s : State) : (retireTag i s).tracker = tagRetired i s.tracker := rfl

/-- The record of a LINE_FETCH or LOCKED_READ that fails (R59). -/
def failureReport (k : FaultKind) (q : Request) (tag : TagRef) : FaultReport :=
  { kind := k, slot := some q.slot, hostAddress := some q.hostAddress, tag := some (tagByte tag) }

theorem requestFault_error {k : FaultKind} {q : Request} {tag : TagRef} {s : State} (purpose : q.purpose ≠ .exclBegin) :
    requestFault q tag (.error k) s = takeFault (failureReport k q tag) s := by
  unfold requestFault
  dsimp only
  split
  · exact absurd ‹_› purpose
  · rfl

theorem requestFault_reports (i : TagIx) {q : Request} {result : FetchResult} {s u t : State} (purpose : q.purpose ≠ .exclBegin)
    (harmless : result.harmless) (before : u.faults = s.faults)
    (after : t.faults = (requestFault q ⟨i, (s.tracker.tags.get i).generation⟩ result u).faults) :
    ResultReported i q result s t := by
  cases result with
  | data bytes => exact after.trans before
  | error k =>
    have plain : k.fencing = false := harmless
    have taken := takeFault_taken (failureReport k q ⟨i, (s.tracker.tags.get i).generation⟩) u
    rw [show autofences (failureReport k q ⟨i, (s.tracker.tags.get i).generation⟩) u = false by
      simp [autofences, failureReport, plain]] at taken
    rw [requestFault_error purpose] at after
    rw [FaultTaken, ← after, before] at taken
    exact taken

/-- The line after the result of its tag, the stale one becomes FREE (R32). -/
theorem lineResult_fetching {j : LineIx} {b : Binding} {f : FetchSpan} {readStart : Option Nat} {stale : Bool} {g : TagRef}
    (result : FetchResult) {s : State} (line : lineAt j s = .fetching b f readStart stale g) :
    lineResult j result s = setLine j (Line.result result (.fetching b f readStart stale g)) s := by
  simp [lineResult, line]

theorem result_reclaimable (b : Binding) (f : FetchSpan) (readStart : Option Nat) (stale : Bool) (g : TagRef)
    (result : FetchResult) : (Line.result result (.fetching b f readStart stale g)).reclaimable = !stale := by
  cases stale <;> cases result <;> rfl

theorem retirementState_changes (c : Instr) (d : Time) (s : State) :
    OnlyChanges [.uplink, .time] s (retirementState c d s) := by
  simp [onlyChanges_iff]

theorem retireTag_changes (i : TagIx) (s : State) : OnlyChanges [.tracker] s (retireTag i s) := by
  simp [onlyChanges_iff]

theorem finishRequest_lineFetch {i : TagIx} {q : Request} {j : LineIx} (result : FetchResult) {s : State}
    (purpose : q.purpose = .lineFetch j) :
    finishRequest i q result s =
      lineResult j result (requestFault q ⟨i, (s.tracker.tags.get i).generation⟩ result (retireTag i s)) := by
  simp only [finishRequest, handOver, purpose]

/-! ### The result of the EXCL_BEGIN -/

theorem toNone_quiet {s : State} (h : NoneWaitsForEpisode s) : toNone s = setEpisode none s := by
  rw [toNone]
  cases executing : s.command.executing with
  | none => simp [startWaiting, executing]
  | some x => exact startWaiting_none (by simpa using executing) (h x executing)

theorem postEnd_quiet {e : Episode} {s : State} (h : NoneWaitsForEpisode s) :
    postEnd e s =
      if s.tracker.posted.length < 16 then setEpisode none (joinPosted e.slot .exclEnd e.hostAddress true s)
      else setEpisode (some { e with endPending := true }) s := by
  have quiet : NoneWaitsForEpisode (joinPosted e.slot .exclEnd e.hostAddress true s) := by
    simpa only [NoneWaitsForEpisode, joinPosted_frame] using h
  unfold postEnd joinEnd
  rw [toNone_quiet quiet]
  exact if_congr postedRoom_iff rfl rfl

theorem beginResult_eq {tag : TagRef} {e : Episode} (result : FetchResult) {s : State} (episode : s.locks.episode = some e)
    (named : e.beginTag = some tag) (quiet : NoneWaitsForEpisode s) :
    beginResult tag result s =
      match e.state, result with
      | .requested, .data _ => setEpisode (some { e with state := .opened, beginTag := none }) s
      | .requested, .error _ => setEpisode none (refusedBegin e.slot s)
      | .abandoning, .data _ => postEnd { e with beginTag := none } s
      | .abandoning, .error _ => setEpisode none s
      | .opened, _ => s := by
  have refused : NoneWaitsForEpisode (refusedBegin e.slot s) := by
    simpa [NoneWaitsForEpisode, refusedBegin] using quiet
  unfold beginResult
  simp only [episode, named, ne_eq, not_true_eq_false, if_false]
  cases e.state <;> cases result <;> simp only [toNone_quiet quiet]
  exact toNone_quiet refused

theorem refusedBegin_changes (slot : Slot) (s : State) :
    OnlyChanges [.faults, .locks] s (setEpisode none (refusedBegin slot s)) :=
  onlyChanges_trans (takeFault_changes (r := { kind := .exclRefused, slot := some slot }) s rfl) (d := [.locks])
    (by simp [onlyChanges_iff, refusedBegin]) (by simp) (by simp)

theorem refusedBegin_taken (slot : Slot) (s : State) :
    FaultTaken { kind := .exclRefused, slot := some slot } false s (setEpisode none (refusedBegin slot s)) := by
  have taken := takeFault_taken { kind := .exclRefused, slot := some slot } s
  rwa [show autofences { kind := .exclRefused, slot := some slot } s = false from rfl] at taken

/-! ### Idle acknowledgements -/

/-- After k more frames of the buffer the next Seq is that much further (R175). -/
theorem countsUpTo_headD {w : Nat} {next x : BitVec w} {rest : List (BitVec w)} {k : Nat} (h : CountsUpTo next (x :: rest))
    (inside : k ≤ rest.length) : (rest.drop k).headD next = x + BitVec.ofNat w (k + 1) := by
  induction k generalizing x rest with
  | zero => simpa using (countsUpTo_iff.mp h).1.symm
  | succ k ih =>
    cases rest with
    | nil => simp at inside
    | cons y rest =>
      obtain ⟨first, more⟩ := countsUpTo_iff.mp h
      have first : x + 1 = y := first
      rw [List.drop_succ_cons, ih more (by simpa using inside), ← first, BitVec.add_assoc, BitVec.ofNat_add (k + 1) 1,
        BitVec.add_comm 1]
      rfl

theorem oldest_eq_headD (u : Uplink) : oldest u = (u.replay.map (·.seq)).headD u.nextTx := by
  unfold oldest
  cases u.replay <;> rfl

/-- The Seq acknowledged last lies outside the buffer: an AckSeq acts once (R176). -/
theorem applyAck_again (n : SeqNo) {s : State} (numbered : ReplayNumbered s) (bound : s.uplink.replay.length ≤ 16) :
    applyAck n (applyAck n s) = applyAck n s := by
  by_cases outside : s.uplink.replay.length ≤ (n - oldest s.uplink).toNat
  · rw [applyAck_outside outside, applyAck_outside outside]
  obtain ⟨counts, _⟩ := numbered
  cases replay : s.uplink.replay with
  | nil => simp [replay] at outside
  | cons f fs =>
    rw [oldest_cons replay] at outside
    have inside : (n - f.seq).toNat ≤ fs.length := by simpa [replay, Nat.lt_succ_iff] using outside
    have spec := progress_spec (k := (n - f.seq).toNat) replay
    rw [applyAck_inside replay rfl inside]
    refine applyAck_outside ?_
    have reached : oldest (progress ((n - f.seq).toNat + 1) s).uplink = n + 1 := by
      rw [replay, List.map_cons] at counts
      have head := countsUpTo_headD (k := (n - f.seq).toNat) counts (by simpa using inside)
      rw [oldest_eq_headD, spec]
      simp only [List.map_drop, head, BitVec.ofNat_add, BitVec.ofNat_toNat, BitVec.setWidth_eq]
      bv_omega
    have short : (progress ((n - f.seq).toNat + 1) s).uplink.replay.length ≤ 16 := by
      rw [spec]
      simp only [replay, List.length_cons, List.length_drop] at bound ⊢
      omega
    have far : (n - (n + 1)).toNat = 63 := by bv_omega
    rw [reached, far]
    exact short.trans (by omega)

theorem applyAck_linkState (n : SeqNo) (s : State) : (applyAck n s).uplink.linkState = s.uplink.linkState := by
  unfold applyAck
  split <;> rfl

/-- A COMMAND or MEM_DATA of a length that fits is compared while UP (R172, R173). -/
theorem exec_sequenced {seq ackSeq : SeqNo} {p : List Byte} {c : Instr}
    (h : (c = .commandReceived seq ackSeq p ∧ p.length ≤ 136) ∨
      (c = .memDataReceived seq ackSeq p ∧ 4 ≤ p.length ∧ p.length ≤ 68)) :
    ∃ deliver, ∀ s, s.uplink.linkState = .up → exec c s = .next (sequenced seq ackSeq deliver s) := by
  obtain ⟨rfl, high⟩ | ⟨rfl, low, high⟩ := h
  · exact ⟨arrive p, fun s up => congrArg Host.Outcome.next
      ((receive_fits (by simp [lengthFits, high])).trans (whenUp_of_up up))⟩
  · exact ⟨memData p, fun s up => congrArg Host.Outcome.next
      ((receive_fits (by simp [lengthFits, low, high])).trans (whenUp_of_up up))⟩

theorem exec_ackReceived (n : SeqNo) {s : State} (up : s.uplink.linkState = .up) :
    exec (.ackReceived [n.setWidth 8, 0, 0, 0]) s = .next (applyAck n s) := by
  have named : namedSeq [n.setWidth 8, 0, 0, 0] = n := by simp [namedSeq]
  exact congrArg Host.Outcome.next ((receive_fits rfl).trans ((whenUp_of_up up).trans (by rw [named])))

theorem gap_uplink (s : State) : (gap s).uplink = { s.uplink with nakDue := s.uplink.nakDue || !s.uplink.nakSent } := by
  unfold gap
  cases sent : s.uplink.nakSent <;> simp

end Sys2Proof.Machine

namespace Sys2Proof

open Sys2Proof.Machine

/-- Settles O55, by the retirement of the tag and the result of its line. -/
theorem fetchResultsReachLines : Obligations.FetchResultsReachLines := by
  refine ⟨fun seq ackSeq tag status x y data s order length unknown => ?_,
    fun c i q d time j b f readStart stale g result s state purpose line ends => ?_⟩
  · refine ⟨_, exec_memData_inOrder order (by simp) (by simp; omega), ?_⟩
    rw [memData_unexpected (s := s.setUplink (acceptedUplink s)) unknown]
    have taken := takeFault_taken { kind := .unexpectedCompletion, tag := some tag } (s.setUplink (acceptedUplink s))
    rw [autofences_no_slot rfl] at taken
    exact ⟨onlyChanges_trans (c := [.uplink]) (by simp [onlyChanges_iff]) (takeFault_changes _ rfl) (by simp) (by simp),
      by simp, taken⟩
  · have harmless := harmless_of_tagEnds ends
    obtain ⟨run, now⟩ := exec_tagEnds state ends
    rw [finishRequest_lineFetch result purpose] at run
    have generation : ((retirementState c d s).tracker.tags.get i).generation = (s.tracker.tags.get i).generation := by simp
    rw [generation] at run
    generalize hu : requestFault q ⟨i, (s.tracker.tags.get i).generation⟩ result (retireTag i (retirementState c d s)) = u
      at run
    have frame : OnlyChanges [.faults] (retireTag i (retirementState c d s)) u := hu ▸ requestFault_changes _ _ _ harmless
    obtain ⟨kept, _⟩ := id frame
    have staging : u.staging = s.staging := Eq.trans (kept .staging (by simp)) (by simp)
    rw [lineResult_fetching result (s := u) (by rw [lineAt, staging]; exact line)] at run
    have retired := onlyChanges_trans (retirementState_changes c d s) (retireTag_changes i _) (e := [.uplink, .time, .tracker])
      (by simp) (by simp)
    refine ⟨_, run, ?_, ?_, ?_, ?_, ?_, ?_, ?_, ?_⟩
    · exact onlyChanges_trans (onlyChanges_trans retired frame (e := [.uplink, .time, .tracker, .faults]) (by simp) (by simp))
        (d := [.staging]) (by simp [onlyChanges_iff]) (by simp) (by simp)
    · exact Eq.trans (by simp) (Eq.trans (kept .time (by simp)) (by simpa using now))
    · exact Eq.trans (by simp) (Eq.trans (kept .uplink (by simp)) ((by simp : _ = _).trans (retirementState_uplink c d s)))
    · exact Eq.trans (by simp) (Eq.trans (kept .tracker (by simp)) (by simp [retireTag_tracker]))
    · rw [lineAt_setLine, if_pos rfl]
      cases stale <;> cases result <;> rfl
    · intro l other
      rw [lineAt_setLine, if_neg (Ne.symm other), lineAt, staging]
      rfl
    · simp only [setLine, State.setStaging_staging, result_reclaimable, staging]
      cases stale <;> simp
    · exact requestFault_reports i (u := retireTag i (retirementState c d s)) (by simp [purpose]) harmless (by simp)
        (by rw [hu]; simp)

/-- Settles O56, by the state of the episode. -/
theorem exclBeginResultDecides : Obligations.ExclBeginResultDecides := by
  intro c i q d time result e s state purpose _ ends episode named quiet
  obtain ⟨run, now⟩ := exec_tagEnds state ends
  have generation : ((retirementState c d s).tracker.tags.get i).generation = (s.tracker.tags.get i).generation := by simp
  rw [finishRequest_exclBegin result purpose, generation] at run
  have retired := onlyChanges_trans (retirementState_changes c d s) (retireTag_changes i _) (e := [.uplink, .time, .tracker])
    (by simp) (by simp)
  have uplink := retirementState_uplink c d s
  have tracker : (retireTag i (retirementState c d s)).tracker = tagRetired i s.tracker := by simp [retireTag_tracker]
  have faults : (retireTag i (retirementState c d s)).faults = s.faults := by simp
  have locks : (retireTag i (retirementState c d s)).locks = s.locks := by simp
  have command : (retireTag i (retirementState c d s)).command = s.command := by simp
  have present : (retireTag i (retirementState c d s)).now = time := by simpa using now
  have link := (show (retireTag i (retirementState c d s)).uplink = (retirementState c d s).uplink by simp).trans uplink
  generalize retireTag i (retirementState c d s) = u at run retired tracker faults locks command present link
  have still : NoneWaitsForEpisode u := by rwa [NoneWaitsForEpisode, command]
  have only : ∀ t, OnlyChanges [.faults, .tracker, .locks] u t →
      OnlyChanges [.uplink, .faults, .tracker, .locks, .time] s t ∧ t.now = time ∧ t.uplink = u.uplink := fun t frame => by
    obtain ⟨kept, _⟩ := id frame
    exact ⟨onlyChanges_trans retired frame (by simp) (by simp), Eq.trans (kept .time (by simp)) present, kept .uplink (by simp)⟩
  rw [beginResult_eq result (locks ▸ episode) named still] at run
  have ended : ∀ e', OnlyChanges [.faults, .tracker, .locks] u (setEpisode e' u) := fun e' => by simp [onlyChanges_iff]
  cases phase : e.state with
  | requested =>
    simp only [phase] at run
    cases result with
    | data bytes =>
      obtain ⟨frame, now, same⟩ := only _ (ended _)
      refine ⟨_, run, frame, now, same.trans link, fun _ _ _ => ⟨by simpa using faults, by simpa using tracker, ?_⟩, ?_, ?_⟩
      · rw [setEpisode_locks, locks]
      · simp
      · simp
    | error k =>
      obtain ⟨frame, now, same⟩ := only _ (onlyChanges_mono (refusedBegin_changes e.slot u) (by simp))
      refine ⟨_, run, frame, now, same.trans link, ?_, fun _ _ outcome => ⟨?_, ?_, ?_⟩, ?_⟩
      · simp
      · simpa only [FaultTaken, faults] using refusedBegin_taken e.slot u
      · simpa [refusedBegin] using tracker
      · simp [setEpisode, refusedBegin, locks]
      · simp
  | opened =>
    simp only [phase] at run
    obtain ⟨frame, now, same⟩ := only _ (onlyChanges_refl _ u)
    refine ⟨_, run, frame, now, link, ?_, ?_, ?_⟩
    · simp
    · simp
    · simp
  | abandoning =>
    simp only [phase] at run
    cases result with
    | data bytes =>
      rw [postEnd_quiet still] at run
      by_cases room : u.tracker.posted.length < 16
      · rw [if_pos room] at run
        obtain ⟨frame, now, same⟩ := only (setEpisode none (joinPosted e.slot .exclEnd e.hostAddress true u))
          (by simp [onlyChanges_iff])
        refine ⟨_, run, frame, now, same.trans link, ?_, ?_, fun _ => ⟨by simpa using faults, fun _ _ _ => ⟨?_, ?_⟩, ?_, ?_⟩⟩
        · simp
        · simp
        · simp [joinPosted_tracker, tracker, joined]
        · simp [setEpisode, locks]
        · exact fun _ _ full => absurd room (by simp [tracker, tagRetired, full])
        · simp
      · rw [if_neg room] at run
        obtain ⟨frame, now, same⟩ := only _ (ended _)
        refine ⟨_, run, frame, now, same.trans link, ?_, ?_, fun _ => ⟨by simpa using faults, ?_, fun _ _ _ => ⟨?_, ?_⟩, ?_⟩⟩
        · simp
        · simp
        · exact fun _ _ free => absurd (by simpa [tracker, tagRetired] using free) room
        · simpa using tracker
        · rw [setEpisode_locks, locks]
        · simp
    | error k =>
      obtain ⟨frame, now, same⟩ := only _ (ended _)
      refine ⟨_, run, frame, now, same.trans link, ?_, ?_, fun _ => ⟨by simpa using faults, ?_, ?_, fun _ _ => ⟨?_, ?_⟩⟩⟩
      · simp
      · simp
      · simp
      · simp
      · simpa using tracker
      · rw [setEpisode_locks, locks]

/-- Settles O57: the Seq acknowledged last lies outside the buffer, so the AckSeq acts once. -/
theorem sequencedFramesAreCompared : Obligations.SequencedFramesAreCompared := by
  intro seq ackSeq p c s up numbered bound shape
  obtain ⟨deliver, compared⟩ := exec_sequenced shape
  refine ⟨⟨_, exec_ackReceived ackSeq up, ?_⟩, fun order => ?_⟩
  · rw [compared s up, compared _ ((applyAck_linkState ackSeq s).trans up)]
    simp only [sequenced, applyAck_again ackSeq numbered bound]
  · obtain ⟨_, _, outside⟩ := order
    rw [compared s up, sequenced, applyAck_outside outside]
    refine ⟨fun low high => ⟨_, rfl, ?_⟩, fun behind => ⟨_, rfl, ?_⟩⟩
    · dsimp only
      rw [if_neg (by omega), if_pos high]
      exact ⟨by simp [onlyChanges_iff], gap_uplink s⟩
    · dsimp only
      rw [if_neg (by omega), if_neg (by omega)]
      exact ⟨by simp [onlyChanges_iff], rfl⟩

end Sys2Proof
end

section
/-! SLOT_CONTROL: admission and silence of a slot, its fence, its counts and the mask of its events. -/

namespace Sys2Proof.Machine

/-! ### One action -/

/-- SLOT_CONTROL at the head runs its action and replies OK (R86). -/
theorem exec_slotAction {i : Instr} {action : SlotAction} {act : Slot → State → State} {e : CommandEntry}
    {rest : List CommandEntry} {slot : Slot} {s v : State} (ho : orderedStart i = some (orderedStart.slotStart action act))
    (heads : Heads s e rest (.slotControl slot action)) (acts : act slot (beginHead e rest s) = v)
    (command : v.command = (beginHead e rest s).command) (uplink : v.uplink = (beginHead e rest s).uplink) :
    exec i s = .next (complete .ok [] v) ∧ OnlyChanges (touched i) s (complete .ok [] v) ∧
      CreditReturned s (complete .ok [] v) ∧ Replied e rest .ok [] s (complete .ok [] v) := by
  obtain ⟨run, frame⟩ := exec_heads ho heads (f := fun t => complete .ok [] (act slot t)) (by simp [orderedStart.slotStart])
  subst acts
  exact ⟨run, frame, creditReturned_of_uplink e rest (by simpa using uplink), replied_complete command _ _⟩

/-- An action that changes nothing leaves the credit and the reply (R86). -/
theorem complete_beginHead_changes (e : CommandEntry) (rest : List CommandEntry) (result : ResultCode) (s : State) :
    OnlyChanges [.command, .uplink] s (complete result [] (beginHead e rest s)) := by
  simp [onlyChanges_iff]

theorem eventsAgree_beginHead (e : CommandEntry) (rest : List CommandEntry) (s : State) :
    EventsAgree s (beginHead e rest s) := by
  obtain ⟨_, ⟨n, uplink⟩, _⟩ := beginHead_spec e rest s
  exact ⟨by simp, by simp, by simp, by simp, by rw [uplink]⟩

/-! ### The look at a line -/

theorem raised_congr_right {slot : Slot} {s t u : State} (events : u.events = t.events) (staging : u.staging = t.staging)
    (raised : Raised slot s t) : Raised slot s u := by
  simpa only [Raised, LinesQuieted, ClosedAppended, SettingsKept, MarksKept, eventAt, lineAt, events, staging] using raised

/-- The look at a line decides the events and the lines of a step (R127). -/
theorem lookAtLine_settles {slot : Slot} {s v t : State} (agree : EventsAgree s v)
    (events : t.events = (lookAtLine slot v).events) (staging : t.staging = (lookAtLine slot v).staging) :
    (Raisable slot s → Raised slot s t) ∧ (¬ Raisable slot s → t.events = s.events ∧ t.staging = s.staging) := by
  obtain ⟨raises, idles⟩ := lookAtLine_decides (slot := slot) agree
  rw [events, staging]
  exact ⟨fun raisable => raised_congr_right events staging (raises raisable), idles⟩

/-! ### Silence -/

theorem dropEventDrain_drops (slot : Slot) (s : State) : EventDrainDropped slot s (dropEventDrain slot s) := by
  intro x
  by_cases same : x = slot
  · subst same
    cases running : (s.staging.slotDrains.get x).event <;> simp [dropEventDrain, setDrains, DrainPhase.disowned, running]
  · simp [dropEventDrain, setDrains, same, Ne.symm same]

theorem eventDrainDropped_congr {slot : Slot} {s t u v : State} (before : u.staging.slotDrains = s.staging.slotDrains)
    (after : v.staging.slotDrains = t.staging.slotDrains) (h : EventDrainDropped slot u v) : EventDrainDropped slot s t := by
  simpa only [EventDrainDropped, before, after] using h

theorem eventAt_setEvent (slot x : Slot) (r : EventRecord) (s : State) :
    eventAt x (setEvent slot r s) = if x = slot then r else eventAt x s := by
  simp [eventAt, setEvent, Table.get_set, eq_comm]

theorem eventAt_dropEventDrain (slot x : Slot) (s : State) : eventAt x (dropEventDrain slot s) = eventAt x s := by
  simp [eventAt]

theorem endEvent_ends (slot : Slot) (s : State) :
    EventDrainDropped slot s (endEvent slot s) ∧ EventEnded slot s (endEvent slot s) ∧
      (endEvent slot s).events.offered = s.events.offered.filter (fun f => f.slot ≠ slot) ∧
      (endEvent slot s).events.lines = s.events.lines := by
  refine ⟨eventDrainDropped_congr (by simp) rfl
    (dropEventDrain_drops slot (withdrawOffer slot (setEvent slot (eventAt slot s).ended s))), fun x => ?_, ?_, ?_⟩
  · have same : eventAt x (endEvent slot s) = eventAt x (setEvent slot (eventAt slot s).ended s) := by
      simp [eventAt, endEvent, withdrawOffer]
    rw [same, eventAt_setEvent]
    by_cases h : x = slot
    · subst h
      rfl
    · simp [h]
  · simp [endEvent, withdrawOffer, setEvent]
  · simp [endEvent, withdrawOffer, setEvent]

theorem eventEnded_congr {slot : Slot} {s t u v : State} (before : u.events = s.events) (after : v.events = t.events)
    (h : EventEnded slot u v) : EventEnded slot s t := by
  intro x
  have ended := h x
  rwa [show eventAt x u = eventAt x s by rw [eventAt, eventAt, before],
    show eventAt x v = eventAt x t by rw [eventAt, eventAt, after]] at ended

theorem withdrawEvent_pending {slot : Slot} {s : State} (h : ∃ d, (eventAt slot s).state = .pending d) :
    withdrawEvent slot s = dropEventDrain slot (setEvent slot (eventAt slot s).ended s) := by
  obtain ⟨d, pending⟩ := h
  simp [withdrawEvent, pending]

theorem withdrawEvent_other {slot : Slot} {s : State} (h : ∀ d, (eventAt slot s).state ≠ .pending d) :
    withdrawEvent slot s = s := by
  unfold withdrawEvent
  split
  · exact absurd ‹_› (h _)
  · rfl

theorem withdrawEvent_rest (slot : Slot) (s : State) :
    (withdrawEvent slot s).events.offered = s.events.offered ∧ (withdrawEvent slot s).events.lines = s.events.lines ∧
      (withdrawEvent slot s).staging = { s.staging with slotDrains := (withdrawEvent slot s).staging.slotDrains } ∧
      ∀ x, x ≠ slot → eventAt x (withdrawEvent slot s) = eventAt x s := by
  by_cases h : ∃ d, (eventAt slot s).state = .pending d
  · rw [withdrawEvent_pending h]
    refine ⟨by simp [setEvent], by simp [setEvent], by simp [dropEventDrain, setDrains], fun x other => ?_⟩
    rw [eventAt_dropEventDrain, eventAt_setEvent, if_neg other]
  · rw [withdrawEvent_other (by simpa using h)]
    exact ⟨rfl, rfl, rfl, fun _ _ => rfl⟩

/-- What disable and the beginning of a slot reset do (R88, R91). -/
def silence (slot : Slot) (r : SlotRecord) (s : State) : State :=
  endEvent slot (quiesceSlot slot (endOwnership slot (holdInReset slot r s)))

theorem silence_silences (slot : Slot) (r : SlotRecord) (s : State) : SlotSilenced slot s (silence slot r s) := by
  have quieted := quiesceSlot_quiets slot (endOwnership slot (holdInReset slot r s))
  obtain ⟨drains, ended, offered, lines⟩ := endEvent_ends slot (quiesceSlot slot (endOwnership slot (holdInReset slot r s)))
  refine ⟨?_, by simp [SettingsKept, silence, endEvent, dropEventDrain, setDrains],
    by simp [MarksKept, silence, endEvent, dropEventDrain, setDrains], eventDrainDropped_congr (by simp) rfl drains, ?_, ?_, ?_⟩
  · have closed := linesQuieted_congr (s := s) (by simp) quieted
    simpa [LinesQuieted, ClosedAppended, lineAt, silence, endEvent, dropEventDrain, setDrains] using closed
  · have events : (quiesceSlot slot (endOwnership slot (holdInReset slot r s))).events = s.events := by simp
    exact eventEnded_congr events rfl ended
  · simpa [silence] using offered
  · simpa [silence] using lines

theorem silence_bus (slot : Slot) (r : SlotRecord) (s : State) :
    (silence slot r s).bus =
      { ownershipEnded slot s.bus with
        slots := s.bus.slots.set slot r
        claimants := s.bus.claimants.filter (· ≠ slot) } := by
  have bus : (silence slot r s).bus = (endOwnership slot (holdInReset slot r s)).bus := by simp [silence]
  rw [bus, endOwnership, ownershipEnded]
  by_cases owner : s.bus.owner = .slot slot
  · rw [if_pos owner, if_pos (by simpa [holdInReset] using owner)]
    rfl
  · rw [if_neg owner, if_neg (by simpa [holdInReset] using owner)]
    rfl

/-- What a command leaves that has silenced the slot and completed (R88, R91). -/
theorem silence_completes (e : CommandEntry) (rest : List CommandEntry) (slot : Slot) (r : SlotRecord) (s : State) :
    SlotSilenced slot s (complete .ok [] (silence slot r (beginHead e rest s))) ∧
      (complete .ok [] (silence slot r (beginHead e rest s))).bus =
        { ownershipEnded slot s.bus with
          slots := s.bus.slots.set slot r
          claimants := s.bus.claimants.filter (· ≠ slot) } := by
  obtain ⟨quieted, settings, marks, drains, ended, offered, lines⟩ := silence_silences slot r (beginHead e rest s)
  refine ⟨⟨linesQuieted_congr (by simp) (linesQuieted_congr_right (by simp) quieted), ?_, ?_,
    eventDrainDropped_congr (by simp) (by simp) drains, ?_, by simpa using offered, by simpa using lines⟩, ?_⟩
  · simpa [SettingsKept] using settings
  · simpa [MarksKept] using marks
  · exact eventEnded_congr (by simp) (by simp) ended
  · exact Eq.trans (by simp) ((silence_bus slot r (beginHead e rest s)).trans (by simp))

theorem quieted_slotFenced {slot : Slot} {s t u v : State} (slots : u.bus.slots = s.bus.slots) (before : u.staging = s.staging)
    (after : v.staging = t.staging) (bus : v.bus = t.bus) (h : SlotFenced slot u v) : SlotFenced slot s t := by
  simpa only [SlotFenced, LinesQuieted, ClosedAppended, SettingsKept, MarksKept, lineAt, slots, before, after, bus] using h

theorem eventAgree_withSlot {u : State} (slot : Slot) (r : SlotRecord) {s : State} (h : EventsAgree s u) :
    EventsAgree (s.setBus { s.bus with slots := s.bus.slots.set slot r }) (setSlot slot r u) := by
  obtain ⟨events, staging, tracker, bus, link⟩ := h
  exact ⟨events, staging, tracker, by simp [setSlot, bus], link⟩

end Sys2Proof.Machine

namespace Sys2Proof

open Sys2Proof.Machine

/-- Settles O30: the slot takes part, and its line is looked at. -/
theorem enableAdmitsSlot : Obligations.EnableAdmitsSlot := by
  intro e rest slot s heads
  cases on : (s.bus.slots.get slot).enabled with
  | true =>
    obtain ⟨run, _, credit, replied⟩ := exec_slotAction (i := .slotControlEnable) rfl heads (v := beginHead e rest s)
      (by simp [enableSlot, slotAt, on]) rfl rfl
    exact ⟨_, run, credit, replied, fun _ => complete_beginHead_changes e rest .ok s, by simp⟩
  | false =>
    have agree := eventAgree_withSlot slot { s.bus.slots.get slot with enabled := true } (eventsAgree_beginHead e rest s)
    generalize hv : setSlot slot { s.bus.slots.get slot with enabled := true } (beginHead e rest s) = v at agree
    have bus : v.bus = { s.bus with slots := s.bus.slots.set slot { s.bus.slots.get slot with enabled := true } } := by
      simp [← hv, setSlot]
    have lines : v.events.lines = s.events.lines := by simp [← hv]
    obtain ⟨run, frame, credit, replied⟩ := exec_slotAction (i := .slotControlEnable) rfl heads (v := lookAtLine slot v)
      (by simp [enableSlot, slotAt, on, ← hv]) (by simp [← hv]) (by simp [← hv])
    obtain ⟨raises, idles⟩ := lookAtLine_settles (slot := slot) (t := complete .ok [] (lookAtLine slot v)) agree (by simp) (by simp)
    refine ⟨_, run, credit, replied, by simp, fun _ => ⟨onlyChanges_mono frame (by decide), ?_⟩⟩
    rw [show (complete .ok [] (lookAtLine slot v)).bus = _ from Eq.trans (by simp) bus]
    exact ⟨rfl, by simpa using lines, raises, idles⟩

/-- Settles O31: disable and the beginning of a slot reset silence the slot. -/
theorem disableAndResetSilenceSlot : Obligations.DisableAndResetSilenceSlot := by
  refine ⟨fun e rest slot s heads => ?_, fun e rest slot s heads => ?_⟩
  · cases on : (s.bus.slots.get slot).enabled with
    | false =>
      obtain ⟨run, _, credit, replied⟩ := exec_slotAction (i := .slotControlDisable) rfl heads (v := beginHead e rest s)
        (by simp [disableSlot, slotAt, on]) rfl rfl
      exact ⟨_, run, credit, replied, fun _ => complete_beginHead_changes e rest .ok s, by simp⟩
    | true =>
      obtain ⟨run, frame, credit, replied⟩ := exec_slotAction (i := .slotControlDisable) rfl heads
        (v := silence slot { s.bus.slots.get slot with enabled := false, resetDeadline := none } (beginHead e rest s))
        (by simp [disableSlot, slotAt, on, silence]) (by simp [silence]) (by simp [silence])
      exact ⟨_, run, credit, replied, by simp, fun _ => ⟨frame, silence_completes e rest slot _ s⟩⟩
  · obtain ⟨run, frame⟩ := exec_heads (i := .slotControlReset) rfl heads rfl
    cases on : (s.bus.slots.get slot).enabled with
    | false =>
      rw [if_neg (by simp [slotAt, on])] at run
      exact ⟨_, run, creditReturned_of_uplink e rest (by simp),
        fun _ => ⟨complete_beginHead_changes e rest _ s, replied_complete rfl _ _⟩, by simp⟩
    | true =>
      rw [if_pos (by simp [slotAt, on])] at run frame
      have begun : beginSlotReset slot (beginHead e rest s) =
          silence slot { s.bus.slots.get slot with resetDeadline := some (s.now + 200) } (beginHead e rest s) := by
        simp [beginSlotReset, silence, slotAt, Config.slotResetTime, Config.us]
      rw [begun] at run frame
      exact ⟨_, run, creditReturned_of_uplink e rest (by simp [silence]), by simp,
        fun _ => ⟨frame, replied_complete (by simp [silence]) _ _, silence_completes e rest slot _ s⟩⟩

/-- Settles O32, by the slot's record. -/
theorem fenceUnfenceAndClearFaults : Obligations.FenceUnfenceAndClearFaults := by
  refine ⟨fun e rest slot s heads => ?_, fun e rest slot s heads => ?_, fun e rest slot s heads => ?_⟩
  · cases fenced : (s.bus.slots.get slot).fenced with
    | true =>
      obtain ⟨run, _, credit, replied⟩ := exec_slotAction (i := .slotControlFence) rfl heads (v := beginHead e rest s)
        (fence_of_fenced (by simpa using fenced)) rfl rfl
      exact ⟨_, run, credit, replied, fun _ => complete_beginHead_changes e rest .ok s, by simp⟩
    | false =>
      obtain ⟨run, frame, credit, replied⟩ := exec_slotAction (i := .slotControlFence) rfl heads rfl (by simp) (by simp)
      obtain ⟨fences, drains, bus⟩ := fence_fences (slot := slot) (s := beginHead e rest s) (by simpa using fenced)
      refine ⟨_, run, credit, replied, by simp, fun _ => ⟨frame, ?_, by simpa using drains, ?_⟩⟩
      · exact quieted_slotFenced (by simp) (by simp) (by simp) (by simp) fences
      · simpa using bus
  · obtain ⟨run, frame, credit, replied⟩ := exec_slotAction (i := .slotControlUnfence) rfl heads rfl (by simp [unfence])
      (by simp [unfence])
    exact ⟨_, run, credit, replied, frame, by simp [unfence, setSlot, slotAt]⟩
  · obtain ⟨run, frame, credit, replied⟩ := exec_slotAction (i := .slotControlClearFaults) rfl heads rfl (by simp [clearFaults])
      (by simp [clearFaults])
    exact ⟨_, run, credit, replied, frame, by simp [clearFaults, setSlot, slotAt], by simp [clearFaults]⟩

/-- Settles O34, by the record of the slot's event. -/
theorem maskAndUnmaskEvents : Obligations.MaskAndUnmaskEvents := by
  refine ⟨fun e rest slot s heads => ?_, fun e rest slot s u heads unmasked => ?_⟩
  · obtain ⟨run, frame, credit, replied⟩ := exec_slotAction (i := .slotControlMask) rfl heads rfl (by simp [maskSlot])
      (by simp [maskSlot])
    generalize hm : setEvent slot { eventAt slot s with masked := true } (beginHead e rest s) = m
    have masks : maskSlot slot (beginHead e rest s) = withdrawEvent slot m := by simp [maskSlot, eventAt, ← hm]
    have events : m.events = { s.events with records := s.events.records.set slot { eventAt slot s with masked := true } } := by
      simp [← hm, setEvent]
    have staging : m.staging = s.staging := by simp [← hm]
    have self : eventAt slot m = { eventAt slot s with masked := true } := by simp [eventAt, events]
    have others : ∀ x, x ≠ slot → eventAt x m = eventAt x s := fun x other => by simp [eventAt, events, Ne.symm other]
    have ends : (complete .ok [] (maskSlot slot (beginHead e rest s))).events = (withdrawEvent slot m).events ∧
        (complete .ok [] (maskSlot slot (beginHead e rest s))).staging = (withdrawEvent slot m).staging := by
      simp [masks]
    obtain ⟨endEvents, endStaging⟩ := ends
    have looks : ∀ x, eventAt x (complete .ok [] (maskSlot slot (beginHead e rest s))) = eventAt x (withdrawEvent slot m) :=
      fun x => by rw [eventAt, endEvents, eventAt]
    obtain ⟨offered, lines, drains, rest⟩ := withdrawEvent_rest slot m
    refine ⟨_, run, credit, replied, frame, ?_, ?_, fun x other => ?_, ?_, fun pending => ?_, fun other => ?_⟩
    · rw [endEvents, offered, events]
    · rw [endEvents, lines, events]
    · rw [looks, rest x other, others x other]
    · rw [endStaging]
      exact drains.trans (by rw [staging])
    · have withdrawn := withdrawEvent_pending (slot := slot) (s := m) (by simpa [self] using pending)
      refine ⟨?_, ?_⟩
      · rw [looks, withdrawn]
        rw [eventAt_dropEventDrain, eventAt_setEvent, if_pos rfl, self]
        rfl
      · exact eventDrainDropped_congr (u := setEvent slot (eventAt slot m).ended m) (by simp [staging])
          (by rw [endStaging, withdrawn]) (dropEventDrain_drops slot _)
    · rw [looks, endStaging, withdrawEvent_other (by simp [self, other])]
      exact ⟨self, staging⟩
  · have agree : EventsAgree u (setEvent slot { eventAt slot s with masked := false } (beginHead e rest s)) := by
      obtain ⟨_, _, _, _, link⟩ := eventsAgree_beginHead e rest s
      subst unmasked
      exact ⟨by simp [setEvent], by simp, by simp, by simp, by simpa using link⟩
    obtain ⟨run, frame, credit, replied⟩ := exec_slotAction (i := .slotControlUnmask) rfl heads
      (v := lookAtLine slot (setEvent slot { eventAt slot s with masked := false } (beginHead e rest s)))
      (by simp [unmaskSlot, eventAt]) (by simp) (by simp)
    obtain ⟨raises, idles⟩ := lookAtLine_settles (slot := slot)
      (t := complete .ok [] (lookAtLine slot (setEvent slot { eventAt slot s with masked := false } (beginHead e rest s)))) agree
      (by simp) (by simp)
    refine ⟨_, run, credit, replied, frame, by simp [setEvent], raises, fun idle => ?_⟩
    obtain ⟨events, staging⟩ := idles idle
    exact ⟨events, staging.trans (by simp [unmasked])⟩

end Sys2Proof
end

section
/-! CARD_READ and CARD_WRITE, the host lock and BRIDGE_RESET at the head of the ordered sequence. -/

namespace Sys2Proof.Machine

/-! ### Downstream accesses -/

theorem accessRefusal_window {f : AccessFields} {s : State} (h : accessInWindow s.pageMap f = true) :
    accessRefusal f s = some .badArgument := by
  rw [accessRefusal, if_pos h]

theorem accessRefusal_disabled {f : AccessFields} {slot : Slot} {s : State} (space : f.space = .identity)
    (named : f.slot = some slot) (off : (s.bus.slots.get slot).enabled = false) : accessRefusal f s = some .slotDisabled := by
  have outside : accessInWindow s.pageMap f = false := by simp [accessInWindow, space]
  simp [accessRefusal, outside, space, named, slotAt, off]

theorem accessRefusal_none {f : AccessFields} {s : State} (outside : accessInWindow s.pageMap f = false)
    (on : ∀ slot, f.space = .identity → f.slot = some slot → (s.bus.slots.get slot).enabled = true) :
    accessRefusal f s = none := by
  unfold accessRefusal
  rw [if_neg (by simp [outside])]
  split
  · exact if_pos (on _ ‹_› ‹_›)
  · rfl

theorem startAccess_refused {write : Bool} {f : AccessFields} {data : List Byte} {code : ResultCode} {s : State}
    (h : accessRefusal f s = some code) : startAccess write f data s = complete code [] s := by
  simp [startAccess, h]

/-- An access that is not refused requests the bus, or presents under a HELD host lock (R115, R116, R97). -/
theorem startAccess_begins {write : Bool} {f : AccessFields} {data : List Byte} {x : Executing} {s : State}
    (h : accessRefusal f s = none) (executing : s.command.executing = some x) :
    startAccess write f data s =
      if lockHeld s then presentAccess (newAccess x.tag write f data s) (setWait .bus s)
      else setAccess (some (newAccess x.tag write f data s)) (setWait .bus s) := by
  simp [startAccess, h, executing]

theorem claimants_congr {s u : State} (space : Space) (selected : Option Slot) (h : u.bus = s.bus) :
    claimants space selected u = claimants space selected s := by
  simp [claimants, eligible, h]

/-- The start of an ordered command other than a bridge reset leaves the credit as it was returned (R158). -/
theorem ordered_credit {i : Instr} {start : Command → Option (State → State)} {e : CommandEntry} {rest : List CommandEntry}
    {c : Command} {f : State → State} {s : State} (ho : orderedStart i = some start) (reset : i ≠ .bridgeReset)
    (hf : start c = some f) : CreditReturned s (f (beginHead e rest s)) := by
  obtain ⟨uplink, _⟩ := ordered_settles ho reset hf (beginHead e rest s)
  exact creditReturned_of_uplink e rest uplink

/-! ### Bridge reset -/

theorem returnCredits_returns (n : Nat) (s : State) :
    (∃ m, (returnCredits n s).uplink = { s.uplink with pendingCredits := m }) ∧
      (s.uplink.pendingCredits + n ≤ 8 → (returnCredits n s).uplink.pendingCredits = s.uplink.pendingCredits + n) := by
  induction n generalizing s with
  | zero => exact ⟨⟨_, rfl⟩, fun _ => rfl⟩
  | succ n ih =>
    obtain ⟨⟨m, uplink⟩, counts⟩ := ih (returnCredit s)
    obtain ⟨⟨k, once⟩, one⟩ := returnCredit_returns s
    refine ⟨⟨m, by rw [returnCredits, uplink, once]⟩, fun low => ?_⟩
    rw [returnCredits, counts (by rw [one (by omega)]; omega), one (by omega)]
    omega

theorem satInc_toNat (d : BitVec 16) : (satInc d).toNat = min 65535 (d.toNat + 1) := by
  unfold satInc
  split
  · next full => simp [full]
  · next low =>
    have below : d.toNat ≠ 65535 := fun full => low (BitVec.eq_of_toNat_eq full)
    have := d.isLt
    rw [BitVec.toNat_add_of_lt (by simp; omega)]
    simp
    omega

theorem addDropped_eq (n : Nat) (d : BitVec 16) : addDropped n d = BitVec.ofNat 16 (min 65535 (d.toNat + n)) := by
  induction n generalizing d with
  | zero =>
    have := d.isLt
    rw [addDropped, Nat.add_zero, min_eq_right (by omega), BitVec.ofNat_toNat, BitVec.setWidth_eq]
  | succ n ih =>
    rw [addDropped, ih, satInc_toNat]
    congr 1
    omega

/-- The state of a bridge reset before its DISCARD record (R164). -/
def bridgeEmptied (s : State) : State :=
  resetBlocks
    (returnCredits s.command.queue.length
      ((complete .ok [] s).setCommand { (complete .ok [] s).command with queue := [], resetting := true }))

theorem startBridgeReset_eq (s : State) :
    startBridgeReset s =
      takeFault (discardReport .bridgeReset (writesHeld s) (busyTags s) s.command.queue.length) (bridgeEmptied s) := rfl

theorem returnCredits_frame (n : Nat) (s : State) :
    (returnCredits n s).pageMap = s.pageMap ∧ (returnCredits n s).tracker = s.tracker ∧ (returnCredits n s).bus = s.bus ∧
      (returnCredits n s).events = s.events ∧ (returnCredits n s).faults = s.faults ∧ (returnCredits n s).now = s.now ∧
      (returnCredits n s).pending = s.pending := by
  induction n generalizing s with
  | zero => exact ⟨rfl, rfl, rfl, rfl, rfl, rfl, rfl⟩
  | succ n ih => simpa [returnCredits] using ih (returnCredit s)

theorem bridgeEmptied_blocks (s : State) :
    (bridgeEmptied s).pageMap = resetPageMap s.pageMap ∧ (bridgeEmptied s).staging = Staging.reset ∧
      (bridgeEmptied s).tracker = resetTracker s.tracker ∧ (bridgeEmptied s).bus = { SlotBus.reset with answer := s.bus.answer } ∧
      (bridgeEmptied s).locks = LockUnit.reset ∧ (bridgeEmptied s).master = BridgeMaster.reset ∧
      (bridgeEmptied s).events = { EventUnit.reset with lines := s.events.lines } ∧
      (bridgeEmptied s).faults = resetFaults s.faults ∧ (bridgeEmptied s).now = s.now ∧ (bridgeEmptied s).pending = s.pending := by
  obtain ⟨pageMap, tracker, bus, events, faults, now, pending⟩ := returnCredits_frame s.command.queue.length
    ((complete .ok [] s).setCommand { (complete .ok [] s).command with queue := [], resetting := true })
  simp [bridgeEmptied, resetBlocks, pageMap, tracker, bus, events, faults, now, pending]

theorem bridgeEmptied_uplink (s : State) :
    (∃ m, (bridgeEmptied s).uplink = { s.uplink with pendingCredits := m }) ∧
      (s.uplink.pendingCredits + s.command.queue.length ≤ 8 →
        (bridgeEmptied s).uplink.pendingCredits = s.uplink.pendingCredits + s.command.queue.length) := by
  have returned := returnCredits_returns s.command.queue.length
    ((complete .ok [] s).setCommand { (complete .ok [] s).command with queue := [], resetting := true })
  simpa [bridgeEmptied, resetBlocks] using returned

/-- The DISCARD record carries no slot, so only the Fault Unit takes it (R149). -/
theorem startBridgeReset_blocks (s : State) :
    (startBridgeReset s).bus = (bridgeEmptied s).bus ∧ (startBridgeReset s).staging = (bridgeEmptied s).staging ∧
      (startBridgeReset s).uplink = (bridgeEmptied s).uplink := by
  obtain ⟨bus, staging⟩ := takeFault_unfenced
    (autofences_no_slot (r := discardReport .bridgeReset (writesHeld s) (busyTags s) s.command.queue.length) rfl (bridgeEmptied s))
  exact ⟨bus, staging, by simp [startBridgeReset_eq]⟩

end Sys2Proof.Machine

namespace Sys2Proof

open Sys2Proof.Machine

/-- Settles O35, by the conditions of refusal. -/
theorem cardAccessStarts : Obligations.CardAccessStarts := by
  intro e rest write i f data s row
  have runs : exec i s = .next (startAccess write f data (beginHead e rest s)) ∧
      OnlyChanges [.master, .bus, .command, .uplink] s (startAccess write f data (beginHead e rest s)) ∧
      CreditReturned s (startAccess write f data (beginHead e rest s)) := by
    obtain ⟨rfl, rfl, rfl, heads⟩ | ⟨rfl, rfl, heads⟩ := row
    · obtain ⟨run, frame⟩ := exec_heads (i := .cardRead) rfl heads rfl
      exact ⟨run, frame, ordered_credit (i := .cardRead) (c := .cardRead f) rfl (by simp) rfl⟩
    · obtain ⟨run, frame⟩ := exec_heads (i := .cardWrite) rfl heads rfl
      exact ⟨run, frame, ordered_credit (i := .cardWrite) (c := .cardWrite f data) rfl (by simp) rfl⟩
  obtain ⟨run, frame, credit⟩ := runs
  have refused : ∀ code, accessRefusal f (beginHead e rest s) = some code →
      OnlyChanges [.command, .uplink] s (startAccess write f data (beginHead e rest s)) ∧
        Replied e rest code [] s (startAccess write f data (beginHead e rest s)) := fun code h => by
    rw [startAccess_refused h]
    exact ⟨complete_beginHead_changes e rest code s, replied_complete rfl _ _⟩
  refine ⟨_, run, credit, fun inside => ?_, fun slot space named off => ?_, fun outside on => ?_⟩
  · exact refused _ (accessRefusal_window (by simpa using inside))
  · exact refused _ (accessRefusal_disabled space named (by simpa using off))
  · have none := accessRefusal_none (s := beginHead e rest s) (by simpa using outside) (by simpa using on)
    have executing := congrArg CommandUnit.executing (beginHead_spec e rest s).1
    have held : lockHeld (beginHead e rest s) = lockHeld s := lockHeld_congr (by simp)
    have master : (beginHead e rest s).master = s.master := by simp
    refine ⟨frame, ?_⟩
    rw [startAccess_begins none executing, held]
    cases lockHeld s with
    | true =>
      rw [if_pos rfl, if_pos rfl, if_pos rfl]
      refine ⟨waits_setWait (u := beginHead e rest s) rfl .bus, ?_, ?_⟩
      · simp [presentAccess, setAccess, newAccess]
      · simp [presentAccess, newAccess, claimants_congr (s := s) (u := setWait .bus (beginHead e rest s)), Config.busTime,
          Config.us]
    | false =>
      rw [if_neg Bool.false_ne_true, if_neg Bool.false_ne_true, if_neg Bool.false_ne_true]
      refine ⟨waits_setWait (u := beginHead e rest s) rfl .bus, ?_, ?_⟩
      · simp [setAccess, newAccess]
      · simp [setAccess]

/-- Settles O36. -/
theorem lockOpenAcquires : Obligations.LockOpenAcquires := by
  intro e rest s heads
  obtain ⟨run, frame⟩ := exec_heads (i := .lockOpen) rfl heads rfl
  refine ⟨_, run, ordered_credit (i := .lockOpen) (c := .lockOpen) rfl (by simp) rfl, fun free => ?_, fun d held => ?_⟩
  · have starts : startLockOpen (beginHead e rest s) =
        setWait .bus ((beginHead e rest s).setLocks { s.locks with hostLock := .acquiring }) := by
      simp [startLockOpen, free]
    rw [starts] at frame ⊢
    exact ⟨frame, by simp, waits_setWait (u := (beginHead e rest s).setLocks { s.locks with hostLock := .acquiring }) rfl _⟩
  · have starts : startLockOpen (beginHead e rest s) = complete .ok [] (beginHead e rest s) := by
      simp [startLockOpen, held]
    rw [starts]
    exact ⟨complete_beginHead_changes e rest .ok s, replied_complete rfl _ _⟩

/-- Settles O37: LOCK_CLOSE takes no argument bytes, and at execution ends the lock that is HELD. -/
theorem lockCloseReleases : Obligations.LockCloseReleases := by
  refine ⟨fun e rest s heads => ?_, fun seq ackSeq t1 t0 reserved x xs s order length place room unused => ?_⟩
  · obtain ⟨run, frame⟩ := exec_heads (i := .lockClose) rfl heads rfl
    refine ⟨_, run, ordered_credit (i := .lockClose) (c := .lockClose) rfl (by simp) rfl, fun d held owner => ?_, fun free => ?_⟩
    · have starts : startLockClose (beginHead e rest s) =
          complete .ok [] (dropBus ((beginHead e rest s).setLocks { s.locks with hostLock := .free })) := by
        simp [startLockClose, held]
      rw [starts] at frame ⊢
      refine ⟨frame, by simp, ?_, replied_complete (by simp) _ _⟩
      simp [dropBus_bus, masterReleased, owner]
    · have starts : startLockClose (beginHead e rest s) = complete .notHeld [] (beginHead e rest s) := by
        simp [startLockClose, free]
      rw [starts]
      exact ⟨complete_beginHead_changes e rest .notHeld s, replied_complete rfl _ _⟩
  · obtain ⟨t, run, _, refuses, _⟩ := (commandsAreJudgedOnArrival seq ackSeq s order).2 t1 t0 0x0B reserved (x :: xs) _
      (by simpa using Nat.succ_le_succ length) rfl
    obtain ⟨frame, credit, command⟩ := refuses .badArgument place room (.inr (.inr ⟨unused, rfl, rfl, rfl⟩))
    exact ⟨t, run, onlyChanges_mono frame (by simp), credit, command⟩

/-- Settles O38: the blocks take their values, and then the Fault Unit takes the DISCARD record. -/
theorem bridgeResetResetsBlocks : Obligations.BridgeResetResetsBlocks := by
  intro e rest s heads
  obtain ⟨run, _⟩ := exec_heads (i := .bridgeReset) rfl heads rfl
  generalize hu : beginHead e rest s = u at run
  have command : u.command = _ := hu ▸ (beginHead_spec e rest s).1
  have credit : CreditReturned s u := hu ▸ (beginHead_spec e rest s).2
  have same : u.pageMap = s.pageMap ∧ u.staging = s.staging ∧ u.tracker = s.tracker ∧ u.bus = s.bus ∧ u.events = s.events ∧
      u.faults = s.faults ∧ u.now = s.now ∧ u.pending = s.pending := by
    simp [← hu]
  obtain ⟨pageMap, staging, tracker, bus, events, faults, now, pending⟩ := same
  obtain ⟨bPageMap, bStaging, bTracker, bBus, bLocks, bMaster, bEvents, bFaults, bNow, bPending⟩ := bridgeEmptied_blocks u
  obtain ⟨kBus, kStaging, kUplink⟩ := startBridgeReset_blocks u
  obtain ⟨⟨m, uplink⟩, counts⟩ := bridgeEmptied_uplink u
  obtain ⟨⟨k, begun⟩, one⟩ := credit
  have queue : u.command.queue = rest := by rw [command]
  have writes : writesHeld u = writesHeld s := by simp [writesHeld, staging, tracker]
  have reads : busyTags u = busyTags s := by simp [busyTags, tracker]
  refine ⟨_, run, ?_, ?_, ?_, ?_, ?_, ?_, ?_, ?_, ?_, ?_, ?_, ?_, ?_⟩
  · simp [startBridgeReset_eq, bNow, now]
  · simp [startBridgeReset_eq, bPending, pending]
  · rw [startBridgeReset_command, complete_executing (congrArg CommandUnit.executing command), State.setCommand_command, command]
  · exact ⟨m, by rw [kUplink, uplink, begun]⟩
  · intro low
    rw [kUplink, counts (by rw [queue, one (by omega)]; omega), queue, one (by omega)]
  · have map : (startBridgeReset u).pageMap = resetPageMap s.pageMap := by simp [startBridgeReset_eq, bPageMap, pageMap]
    rw [map]
    exact ⟨rfl, rfl, fun i => by simp [resetPageMap, MapEntry.reset]⟩
  · rw [kStaging, bStaging]
  · have tags : (startBridgeReset u).tracker = resetTracker s.tracker := by simp [startBridgeReset_eq, bTracker, tracker]
    rw [tags]
    refine ⟨fun i => ?_, rfl, rfl, rfl, rfl, rfl, rfl, rfl⟩
    simp only [resetTracker, discardTracker, retireAll, Table.get_map, TagRecord.busy]
    generalize s.tracker.tags.get i = record
    cases record with
    | mk state generation => cases state <;> rfl
  · rw [kBus, bBus, bus]
  · simp [startBridgeReset_eq, bLocks]
  · simp [startBridgeReset_eq, bMaster]
  · simp [startBridgeReset_eq, bEvents, events]
  · have taken := takeFault_no_slot_queue (r := discardReport .bridgeReset (writesHeld u) (busyTags u) u.command.queue.length)
      (s := bridgeEmptied u) rfl (by simp [bFaults, resetFaults])
    rw [startBridgeReset_eq, taken, bFaults, writes, reads, queue, faults]
    refine ⟨?_, rfl, rfl, fun slot => by simp [resetFaults, FaultUnit.reset]⟩
    simp [resetFaults, addDropped_eq, discardReport]

end Sys2Proof
end

section
/-! Presentations by slots: the gates of the window, translation, and the response to the card. -/

namespace Sys2Proof.Machine

/-! ### The presentation that the bridge claims -/

theorem lockReport_of_exec {slot : Slot} {s r : State} (h : exec (.lockRelease slot) s = .next r) : r = lockReport slot s :=
  (Host.Outcome.next.inj h).symm

/-- The presentation is claimed on the state after the report of its lock flag (R73, R76). -/
theorem exec_presents {slot : Slot} {a : CardAddr} {x : Transfer} {lock : Bool} {s r : State} (h : Presents slot a x lock s r) :
    exec (.slotPresentation slot (.memory a) x lock) s = .next (claimedPresentation slot a x lock r) ∧
      r.bus.owner = .slot slot := by
  obtain ⟨owner, idle, formed, reported, inside⟩ := h
  have may : mayPresent slot s = true := by
    cases phase : s.bus.phase with
    | awaiting b n => exact absurd phase (idle b n)
    | granted => simp [mayPresent, owner, phase]
    | continuing => simp [mayPresent, owner, phase]
  have report : (if lock then s else lockReport slot s) = r := by
    cases lock with
    | true => exact reported.symm
    | false => exact (lockReport_of_exec reported).symm
  have bus : r.bus = s.bus := by
    rw [← report]
    split
    · rfl
    · simp
  refine ⟨congrArg Host.Outcome.next ?_, bus ▸ owner⟩
  rw [may, formed, report]
  simp [claims, inside]

theorem respond_changes (slot : Slot) (length k : Nat) (ans : Answer) (s : State) :
    OnlyChanges [.bus] s (respond slot length k ans s) := by
  simp [onlyChanges_iff]

theorem endOwnership_owned {slot : Slot} {s : State} (owner : s.bus.owner = .slot slot) :
    endOwnership slot s = s.setBus { s.bus with owner := .none, phase := .granted, deadline := none } := by
  simp [endOwnership, owner]

/-- The response to the card ends its ownership, or keeps the bus for the remainder (R75, R77, R83). -/
theorem respond_answers {slot : Slot} {a : CardAddr} {x : Transfer} {ans : Answer} {r u : State}
    (owner : u.bus.owner = .slot slot) (pointer : u.bus.pointer = r.bus.pointer)
    (masterLock : u.bus.masterLock = r.bus.masterLock) :
    BusAnswered slot a x ans r (respond slot x.length (blockLength a x) ans u) ∧
      (respond slot x.length (blockLength a x) ans u).bus.slots = u.bus.slots := by
  have ended : ∀ response data, endOwnership slot (drive response data u) =
      (drive response data u).setBus
        { (drive response data u).bus with owner := .none, phase := .granted, deadline := none } :=
    fun response data => endOwnership_owned owner
  unfold respond BusAnswered
  cases ans with
  | complete data =>
    by_cases short : blockLength a x < x.length
    · simp only [if_pos short]
      exact ⟨⟨pointer, masterLock, rfl, owner, rfl, rfl⟩, rfl⟩
    · simp only [if_neg short, ended]
      exact ⟨⟨pointer, masterLock, rfl, rfl, rfl, rfl⟩, rfl⟩
  | retry =>
    simp only [ended]
    exact ⟨⟨pointer, masterLock, rfl, rfl, rfl, rfl⟩, rfl⟩
  | abort =>
    simp only [ended]
    exact ⟨⟨pointer, masterLock, rfl, rfl, rfl, rfl⟩, rfl⟩

/-! ### The gates -/

theorem windowAccess_gated {slot : Slot} {a : CardAddr} {x : Transfer} {lock : Bool} {r : State}
    (h : (r.bus.slots.get slot).enabled = false ∨ (r.bus.slots.get slot).resetDeadline ≠ none ∨
      (r.bus.slots.get slot).fenced = true) :
    windowAccess slot a x lock r =
      (.abort,
        setSlot slot { r.bus.slots.get slot with fencedAborts := satInc (r.bus.slots.get slot).fencedAborts } r) := by
  have shut : (!(slotAt slot r).enabled || (slotAt slot r).inReset || (slotAt slot r).fenced) = true := by
    simpa [slotAt, SlotRecord.inReset, Option.isSome_iff_ne_none, or_assoc] using h
  simp only [windowAccess, if_pos shut]
  rfl

theorem gates_open {slot : Slot} {r : State} (on : (r.bus.slots.get slot).enabled = true)
    (out : (r.bus.slots.get slot).resetDeadline = none) (unfenced : (r.bus.slots.get slot).fenced = false) :
    ¬ (!(slotAt slot r).enabled || (slotAt slot r).inReset || (slotAt slot r).fenced) = true := by
  simp [slotAt, SlotRecord.inReset, on, out, unfenced]

theorem windowAccess_down {slot : Slot} {a : CardAddr} {x : Transfer} {lock : Bool} {r : State}
    (on : (r.bus.slots.get slot).enabled = true) (out : (r.bus.slots.get slot).resetDeadline = none)
    (unfenced : (r.bus.slots.get slot).fenced = false) (down : r.uplink.linkState ≠ .up) :
    windowAccess slot a x lock r =
      (.abort, setSlot slot { r.bus.slots.get slot with downAborts := satInc (r.bus.slots.get slot).downAborts } r) := by
  simp only [windowAccess, if_neg (gates_open on out unfenced), not_linkUp down, Bool.not_false, if_true]
  rfl

theorem windowAccess_passes {slot : Slot} {a : CardAddr} {x : Transfer} {lock : Bool} {r : State} (h : PassesGates slot r) :
    windowAccess slot a x lock r = translateAndServe slot a x lock r := by
  obtain ⟨on, out, unfenced, up⟩ := h
  have link : linkUp r = true := by simp [linkUp, up]
  simp only [windowAccess, if_neg (gates_open on out unfenced), link, Bool.not_true, Bool.false_eq_true, if_false]

theorem writes_cutTransfer (k : Nat) (x : Transfer) : writes (cutTransfer k x) = writes x := by
  cases x <;> rfl

theorem translateAndServe_refused {slot : Slot} {a : CardAddr} {x : Transfer} {lock : Bool} {kind : FaultKind} {r : State}
    (h : translate r.pageMap slot a (writes x) lock = .refused kind) :
    translateAndServe slot a x lock r =
      (.abort, takeFault { kind := kind, slot := some slot, cardAddress := some a } r) := by
  simp [translateAndServe, h]

theorem translateAndServe_passed {slot : Slot} {a : CardAddr} {x : Transfer} {lock : Bool} {tr : Translation} {r : State}
    (h : translate r.pageMap slot a (writes x) lock = .passed tr) : translateAndServe slot a x lock r = serve tr x lock r := by
  simp [translateAndServe, h]

/-- A presentation that is aborted at the gates touches the slot's count alone (R79, R80). -/
theorem claimed_gateAbort {slot : Slot} {a : CardAddr} {x : Transfer} {lock : Bool} {r : State} {record : SlotRecord}
    (owner : r.bus.owner = .slot slot)
    (access : windowAccess slot a (cutTransfer (blockLength a x) x) lock r = (.abort, setSlot slot record r)) :
    OnlyChanges [.bus] r (claimedPresentation slot a x lock r) ∧
      BusAnswered slot a x .abort r (claimedPresentation slot a x lock r) ∧
      (claimedPresentation slot a x lock r).bus.slots = r.bus.slots.set slot record := by
  rw [claimedPresentation, access]
  obtain ⟨answered, slots⟩ := respond_answers (u := setSlot slot record r) (r := r) (a := a) (x := x) (ans := .abort)
    (slot := slot) owner rfl rfl
  exact ⟨by simp [onlyChanges_iff], answered, slots⟩

/-- A presentation that passes the gates is translated (R79, R6). -/
theorem exec_passesGates {slot : Slot} {a : CardAddr} {x : Transfer} {lock : Bool} {s r : State}
    (presents : Presents slot a x lock s r) (passes : PassesGates slot r) :
    exec (.slotPresentation slot (.memory a) x lock) s =
      .next
        (respond slot x.length (blockLength a x) (translateAndServe slot a (cutTransfer (blockLength a x) x) lock r).1
          (translateAndServe slot a (cutTransfer (blockLength a x) x) lock r).2) := by
  obtain ⟨run, _⟩ := exec_presents presents
  rwa [claimedPresentation, windowAccess_passes passes] at run

/-! ### Refusals of translation -/

theorem translate_refused {m : PageMap} {slot : Slot} {a : CardAddr} {write lock : Bool} {e : MapEntry} {kind : FaultKind}
    (entry : e = m.entries.get (entryIndex m a))
    (h : (e.valid = false ∧ kind = .mapMiss) ∨ (e.valid = true ∧ slotIn e.slots slot = false ∧ kind = .slotDenied) ∨
      (e.valid = true ∧ slotIn e.slots slot = true ∧ e.access.permits write lock = false ∧ kind = .accessDenied)) :
    translate m slot a write lock = .refused kind := by
  subst entry
  obtain ⟨invalid, rfl⟩ | ⟨valid, denied, rfl⟩ | ⟨valid, allowed, denied, rfl⟩ := h
  · simp [translate, invalid]
  · simp [translate, valid, denied]
  · simp [translate, valid, allowed, denied]

theorem translate_passed {m : PageMap} {slot : Slot} {a : CardAddr} {write lock : Bool} {e : MapEntry}
    (entry : e = m.entries.get (entryIndex m a)) (valid : e.valid = true) (allowed : slotIn e.slots slot = true)
    (permitted : e.access.permits write lock = true) : ∃ tr, translate m slot a write lock = .passed tr := by
  subst entry
  simp [translate, valid, allowed, permitted]

theorem fencing_of_refused {m : PageMap} {slot : Slot} {a : CardAddr} {write lock : Bool} {kind : FaultKind}
    (h : translate m slot a write lock = .refused kind) : kind.fencing = true := by
  unfold translate at h
  dsimp only at h
  split at h
  · cases h
    rfl
  · split at h
    · cases h
      rfl
    · split at h
      · cases h
        rfl
      · cases h

/-- A presentation that translation refuses is aborted, and the Fault Unit takes its record (R6). -/
theorem exec_refused {slot : Slot} {a : CardAddr} {x : Transfer} {lock : Bool} {kind : FaultKind} {s r : State}
    (presents : Presents slot a x lock s r) (passes : PassesGates slot r)
    (refused : translate r.pageMap slot a (writes x) lock = .refused kind) :
    ∃ t, exec (.slotPresentation slot (.memory a) x lock) s = .next t ∧ OnlyChanges [.bus, .faults, .staging] r t ∧
      BusAnswered slot a x .abort r t ∧
      FaultTaken { kind := kind, slot := some slot, cardAddress := some a } (r.bus.slots.get slot).autofence r t ∧
      ((r.bus.slots.get slot).autofence = true → SlotFenced slot r t ∧ t.staging.slotDrains = r.staging.slotDrains) ∧
      ((r.bus.slots.get slot).autofence = false → t.bus.slots = r.bus.slots ∧ t.staging = r.staging) := by
  have run := exec_passesGates presents passes
  obtain ⟨_, owner⟩ := exec_presents presents
  obtain ⟨_, _, unfenced, _⟩ := passes
  rw [translateAndServe_refused (by rwa [writes_cutTransfer])] at run
  have fences : autofences { kind := kind, slot := some slot, cardAddress := some a } r = (r.bus.slots.get slot).autofence := by
    simp [autofences, fencing_of_refused refused, unfenced]
  have taken := takeFault_taken { kind := kind, slot := some slot, cardAddress := some a } r
  have busKept : (takeFault { kind := kind, slot := some slot, cardAddress := some a } r).bus =
      { r.bus with slots := (takeFault { kind := kind, slot := some slot, cardAddress := some a } r).bus.slots } := by
    cases auto : (r.bus.slots.get slot).autofence with
    | true => exact (takeFault_fences rfl (fences.trans auto)).2.2
    | false => rw [(takeFault_unfenced (fences.trans auto)).1]
  rw [fences] at taken
  generalize hu : takeFault { kind := kind, slot := some slot, cardAddress := some a } r = u at run taken busKept
  obtain ⟨answered, slots⟩ := respond_answers (u := u) (r := r) (a := a) (x := x) (ans := .abort) (slot := slot)
    (by rw [busKept, owner]) (by rw [busKept]) (by rw [busKept])
  refine ⟨_, run, ?_, answered, ?_, fun auto => ?_, fun auto => ?_⟩
  · subst hu
    simp [onlyChanges_iff]
  · simpa only [FaultTaken, respond_frame] using taken
  · obtain ⟨fenced, drains, _⟩ := takeFault_fences (r := { kind := kind, slot := some slot, cardAddress := some a }) rfl
      (fences.trans auto)
    rw [hu] at fenced drains
    refine ⟨?_, by simpa using drains⟩
    simpa only [SlotFenced, LinesQuieted, ClosedAppended, SettingsKept, MarksKept, lineAt, slots, respond_frame] using fenced
  · obtain ⟨bus, staging⟩ := takeFault_unfenced (fences.trans auto)
    rw [hu] at bus staging
    exact ⟨by rw [slots, bus], by simpa using staging⟩

end Sys2Proof.Machine

namespace Sys2Proof

open Sys2Proof.Machine

/-- Settles O33: the setting decides whether a refused access fences. -/
theorem autofenceIsSetAndRead : Obligations.AutofenceIsSetAndRead := by
  refine ⟨fun e rest slot on i s row => ?_, fun slot a x lock k s r presents passes plain refused => ?_⟩
  · obtain ⟨rfl, rfl, heads⟩ | ⟨rfl, rfl, heads⟩ := row
    · obtain ⟨run, frame, credit, replied⟩ := exec_slotAction (i := .slotControlAutofenceOn) rfl heads rfl
        (by simp [setAutofence]) (by simp [setAutofence])
      exact ⟨_, run, credit, replied, frame, by simp [setAutofence, setSlot, slotAt]⟩
    · obtain ⟨run, frame, credit, replied⟩ := exec_slotAction (i := .slotControlAutofenceOff) rfl heads rfl
        (by simp [setAutofence]) (by simp [setAutofence])
      exact ⟨_, run, credit, replied, frame, by simp [setAutofence, setSlot, slotAt]⟩
  · obtain ⟨t, run, frame, _, taken, _, unfenced⟩ := exec_refused presents passes refused
    obtain ⟨slots, staging⟩ := unfenced plain
    obtain ⟨kept, pending⟩ := frame
    refine ⟨t, run, ⟨fun b other => ?_, pending⟩, slots, plain ▸ taken⟩
    by_cases lines : b = .staging
    · exact lines ▸ staging
    · exact kept b (by simp_all)

/-- Settles O39, by the gates in their order. -/
theorem windowGatesAbortAndCount : Obligations.WindowGatesAbortAndCount := by
  intro slot a x lock s r presents
  obtain ⟨run, owner⟩ := exec_presents presents
  refine ⟨_, run, fun gated => claimed_gateAbort owner (windowAccess_gated gated),
    fun on out unfenced down => claimed_gateAbort owner (windowAccess_down on out unfenced down), fun passes => ⟨?_, fun y => ?_⟩⟩
  · exact Host.Outcome.next.inj (run.symm.trans (exec_passesGates presents passes))
  · have translated := exec_passesGates presents passes
    cases outcome : Machine.translate r.pageMap slot a (writes x) lock with
    | refused kind =>
      obtain ⟨t, refused, _, _, _, fences, leaves⟩ := exec_refused presents passes outcome
      rw [Host.Outcome.next.inj (run.symm.trans refused)]
      cases auto : (r.bus.slots.get slot).autofence with
      | true =>
        obtain ⟨⟨slots, _⟩, _⟩ := fences auto
        rw [slots, Table.get_set]
        split
        · next same =>
          subst same
          exact ⟨rfl, rfl⟩
        · exact ⟨rfl, rfl⟩
      | false =>
        rw [(leaves auto).1]
        exact ⟨rfl, rfl⟩
    | passed tr =>
      rw [translateAndServe_passed (by rwa [writes_cutTransfer])] at translated
      obtain ⟨_, bus, _⟩ := serve_keeps tr (cutTransfer (blockLength a x) x) lock r
      obtain ⟨_, slots⟩ := respond_answers (slot := slot) (a := a) (x := x)
        (ans := (serve tr (cutTransfer (blockLength a x) x) lock r).1) (r := r) (bus ▸ owner) (by rw [bus]) (by rw [bus])
      rw [Host.Outcome.next.inj (run.symm.trans translated), slots, bus]
      exact ⟨rfl, rfl⟩

/-- Settles O40, by the checks of translation in their order. -/
theorem translationRefusesInOrder : Obligations.TranslationRefusesInOrder := by
  intro slot a x lock s r e presents passes entry
  refine ⟨fun k checks => exec_refused presents passes (translate_refused entry checks), fun valid allowed permitted => ?_⟩
  obtain ⟨tr, passed⟩ := translate_passed entry valid allowed permitted
  refine ⟨tr, _, passed, rfl, ?_⟩
  rw [exec_passesGates presents passes, translateAndServe_passed (by rwa [writes_cutTransfer])]

end Sys2Proof
end

section
/-! The arbiter, the ends of a slot's ownership, the interrupt lines and the ends of resets. -/

namespace Sys2Proof.Machine

/-! ### Grants -/

theorem claimants_of_slots {s u : State} (space : Space) (selected : Option Slot) (h : u.bus.slots = s.bus.slots) :
    claimants space selected u = claimants space selected s := by
  simp [claimants, eligible, h]

theorem rotation_split : ∀ p x : Slot,
    rotation p = (rotation p).takeWhile (· ≠ x) ++ x :: ((rotation p).dropWhile (· ≠ x)).tail := by
  decide

theorem rotation_before : ∀ p x y : Slot, y ∈ (rotation p).takeWhile (· ≠ x) →
    (y.val + 5 - p.val) % 6 < (x.val + 5 - p.val) % 6 := by
  decide

/-- The first slot after the pointer that requests and is eligible (R81). -/
theorem rotation_finds {requests : BitVec 6} {x : Slot} {s : State} (asks : requestsBus requests s x = true)
    (first : ∀ y : Slot, (y.val + 5 - s.bus.pointer.val) % 6 < (x.val + 5 - s.bus.pointer.val) % 6 →
      requestsBus requests s y = false) :
    (rotation s.bus.pointer).find? (requestsBus requests s) = some x :=
  List.find?_eq_some_iff_append.mpr ⟨asks, _, _, rotation_split s.bus.pointer x, fun y earlier => by
    simpa using first y (rotation_before s.bus.pointer x y earlier)⟩

theorem exec_busGrant {requests : BitVec 6} {s : State} (free : s.bus.owner = .none) :
    exec (.busGrant requests) s = .next (grant requests s) :=
  congrArg Host.Outcome.next (if_pos free)

theorem grant_held {requests : BitVec 6} {s : State} (held : lockHeld s = true) :
    grant requests s = if accessRequests s then grantAccess s else s := by
  simp [grant, held]

theorem grant_episode {requests : BitVec 6} {e : Episode} {s : State} (free : lockHeld s = false)
    (episode : s.locks.episode = some e) :
    grant requests s = if requestsBus requests s e.slot then grantSlot e.slot s else s := by
  simp [grant, free, episode]

theorem grant_free {requests : BitVec 6} {s : State} (free : lockHeld s = false) (episode : s.locks.episode = none) :
    grant requests s = grantFree requests s := by
  simp [grant, free, episode]

theorem lockAcquiring_iff {s : State} : lockAcquiring s = true ↔ s.locks.hostLock = .acquiring := by
  simp [lockAcquiring]

theorem grantFree_lock {requests : BitVec 6} {s : State} (acquiring : s.locks.hostLock = .acquiring) :
    grantFree requests s = grantLock s :=
  if_pos (lockAcquiring_iff.mpr acquiring)

theorem grantFree_access {requests : BitVec 6} {s : State} (unlocked : s.locks.hostLock ≠ .acquiring)
    (asks : accessRequests s = true) : grantFree requests s = grantAccess s := by
  rw [grantFree, if_neg (mt lockAcquiring_iff.mp unlocked), if_pos asks]

theorem grantFree_slot {requests : BitVec 6} {x : Slot} {s : State} (unlocked : s.locks.hostLock ≠ .acquiring)
    (quiet : accessRequests s = false) (finds : (rotation s.bus.pointer).find? (requestsBus requests s) = some x) :
    grantFree requests s = grantSlot x s := by
  simp [grantFree, mt lockAcquiring_iff.mp unlocked, quiet, finds]

theorem grantFree_nobody {requests : BitVec 6} {s : State} (unlocked : s.locks.hostLock ≠ .acquiring)
    (quiet : accessRequests s = false) (silent : ∀ y, requestsBus requests s y = false) : grantFree requests s = s := by
  have finds : (rotation s.bus.pointer).find? (requestsBus requests s) = none :=
    List.find?_eq_none.mpr fun y _ => by simp [silent y]
  simp [grantFree, mt lockAcquiring_iff.mp unlocked, quiet, finds]

/-- A grant with lock makes the host lock HELD (R96). -/
theorem grantLock_locks {x : Executing} {s : State} (executing : s.command.executing = some x) :
    OnlyChanges [.bus, .locks, .command] s (grantLock s) ∧
      (grantLock s).bus = { s.bus with owner := .master, masterLock := true, deadline := none } ∧
      (grantLock s).locks = { s.locks with hostLock := .held (s.now + 2000 * s.locks.lockLimit) } ∧
      (grantLock s).command =
        { s.command with executing := none, replies := s.command.replies ++ [.reply x.tag x.code .ok []] } := by
  have limit : Config.ms s.locks.lockLimit = 2000 * s.locks.lockLimit := by
    simp [Config.ms]
  have granted : grantLock s = complete .ok []
      ((ownBus true s).setLocks { s.locks with hostLock := .held (s.now + Config.ms s.locks.lockLimit) }) := rfl
  rw [granted, complete_executing (x := x) (by simpa [ownBus] using executing), limit]
  exact ⟨by simp [onlyChanges_iff, ownBus], rfl, rfl, rfl⟩

theorem grantAccess_presents {d : Downstream} {s : State} (access : s.master.access = some d) :
    grantAccess s = presentAccess d (ownBus (lockHeld s) s) := by
  simp [grantAccess, access]

/-! ### The ends of a slot's ownership -/

theorem endOwnership_bus (slot : Slot) (s : State) : (endOwnership slot s).bus = ownershipEnded slot s.bus := by
  unfold endOwnership ownershipEnded
  split <;> rfl

theorem endOwnership_changes (slot : Slot) (s : State) : OnlyChanges [.bus] s (endOwnership slot s) := by
  simp [onlyChanges_iff]

theorem passTo_changes (d : Time) (s : State) : OnlyChanges [.time] s (passTo d s) := by
  simp [onlyChanges_iff]

/-- The ownership ends when a deadline passes (R83). -/
theorem endOwnership_expires (slot : Slot) (d : Time) (s : State) :
    OnlyChanges [.bus, .time] s (endOwnership slot (passTo d s)) ∧ (endOwnership slot (passTo d s)).now = max s.now d ∧
      (endOwnership slot (passTo d s)).bus = ownershipEnded slot s.bus :=
  ⟨onlyChanges_trans (passTo_changes d s) (endOwnership_changes slot _) (by simp) (by simp), by simp [passTo],
    endOwnership_bus slot _⟩

theorem mayPresent_of {slot : Slot} {s : State} (owner : s.bus.owner = .slot slot) (idle : ∀ b n, s.bus.phase ≠ .awaiting b n) :
    mayPresent slot s = true := by
  cases phase : s.bus.phase with
  | awaiting b n => exact absurd phase (idle b n)
  | granted => simp [mayPresent, owner, phase]
  | continuing => simp [mayPresent, owner, phase]

theorem claims_none {address : BusAddress} {r : State} (h : ∀ a, address = .memory a → inWindow r.pageMap a = false) :
    claims address r = none := by
  cases address with
  | memory a => simp [claims, h a rfl]
  | io _ => rfl
  | identity _ => rfl

theorem mem_claimants_iff {space : Space} {selected : Option Slot} {x : Slot} {s : State} :
    x ∈ claimants space selected s ↔
      (s.bus.slots.get x).enabled = true ∧ (s.bus.slots.get x).resetDeadline = none ∧
        (space = .identity → selected = some x) := by
  have everySlot : x ∈ allSlots := List.mem_finRange x
  simp only [claimants, eligible, SlotRecord.inReset, List.mem_filter, everySlot, true_and]
  by_cases identity : space = .identity
  · simp [identity, and_assoc]
  · simp [identity]

/-! ### The withdrawal of an event -/

theorem withdrawEvent_ends {slot : Slot} {s u : State} (looks : ∀ x, eventAt x u = eventAt x s)
    (pending : ∃ d, (eventAt slot s).state = .pending d) : EventEnded slot s (withdrawEvent slot u) := by
  intro x
  rw [withdrawEvent_pending (by rwa [looks]), eventAt_dropEventDrain, eventAt_setEvent, looks, looks]
  by_cases same : x = slot
  · subst same
    rfl
  · rw [if_neg same, if_neg same]

end Sys2Proof.Machine

namespace Sys2Proof

open Sys2Proof.Machine

/-- Settles O48, by the rows of the arbiter in their order. -/
theorem arbiterGrants : Obligations.ArbiterGrants := by
  refine ⟨fun requests s free => ⟨fun held quiet => ?_, fun e unlocked episode silent => ?_,
      fun unlocked episode other quiet silent => ?_⟩,
    fun requests x s free unlocked asks row => ?_, fun requests x s free acquiring episode executing => ?_,
    fun requests d s free access phase other row => ?_⟩
  · rw [exec_busGrant free, grant_held held, quiet]
    rfl
  · have silent : requestsBus requests s e.slot = false := silent
    rw [exec_busGrant free, grant_episode unlocked episode, silent]
    rfl
  · rw [exec_busGrant free, grant_free unlocked episode, grantFree_nobody other quiet silent]
  · have asks : requestsBus requests s x = true := asks
    have granted : grant requests s = grantSlot x s := by
      obtain ⟨e, episode, rfl⟩ | ⟨episode, other, quiet, first⟩ := row
      · rw [grant_episode unlocked episode, asks]
        rfl
      · rw [grant_free unlocked episode, grantFree_slot other quiet (rotation_finds asks first)]
    refine ⟨_, exec_busGrant free, ?_⟩
    rw [granted]
    exact ⟨by simp [onlyChanges_iff], rfl⟩
  · have unlocked : lockHeld s = false := by simp [lockHeld, acquiring]
    refine ⟨_, exec_busGrant free, ?_⟩
    rw [grant_free unlocked episode, grantFree_lock acquiring]
    exact grantLock_locks executing
  · have asks : accessRequests s = true := by simp [accessRequests, access, phase]
    have granted : grant requests s = grantAccess s := by
      cases held : lockHeld s with
      | true => rw [grant_held held, if_pos asks]
      | false =>
        obtain absurd | episode := row
        · simp [held] at absurd
        · rw [grant_free held episode, grantFree_access other asks]
    refine ⟨_, exec_busGrant free, ?_⟩
    rw [granted, grantAccess_presents access]
    refine ⟨by simp [onlyChanges_iff], ?_, by simp [presentAccess, setAccess]⟩
    have same : claimants d.space d.slot (ownBus (lockHeld s) s) = claimants d.space d.slot s :=
      claimants_of_slots d.space d.slot rfl
    simp only [presentAccess, same]
    rfl

/-- Settles O49, by the events that end a presentation or a grant. -/
theorem slotOwnershipEnds : Obligations.SlotOwnershipEnds := by
  refine ⟨fun slot address x lock s r owner idle formed reported outside => ?_, fun slot d s owner phase deadline => ?_,
    fun slot s owner phase => ?_, fun slot address n a s owner phase claims fits => ?_, fun a s nobody => ?_,
    fun space selected x s => mem_claimants_iff, fun slot address n d s owner phase deadline => ?_⟩
  · have report : (if lock then s else lockReport slot s) = r := by
      cases lock with
      | true => exact reported.symm
      | false => exact (lockReport_of_exec reported).symm
    refine ⟨awaitTarget address x r, congrArg Host.Outcome.next ?_, by simp [onlyChanges_iff, awaitTarget], by
      simp [awaitTarget, Config.busTime, Config.us]⟩
    rw [mayPresent_of owner idle, formed, report]
    simp [claims_none outside]
  · refine ⟨_, congrArg Host.Outcome.next ?_, endOwnership_expires slot d s⟩
    simp [idleGrant, owner, phase, deadline]
  · refine ⟨_, congrArg Host.Outcome.next ?_, endOwnership_changes slot s, endOwnership_bus slot s⟩
    simp [idleGrant, owner, phase]
  · have may : mayBeClaimed s = true := by
      unfold mayBeClaimed
      cases claimants : s.bus.claimants with
      | nil => exact absurd claimants claims
      | cons x xs => rfl
    have run : exec (.slotTransactionAnswer a) s = .next (targetAnswer slot n a s) :=
      congrArg Host.Outcome.next (by simp [awaitingSlot, owner, phase, may])
    refine ⟨_, run, ?_⟩
    cases a with
    | partly k =>
      rw [targetAnswer, if_pos (fits k rfl)]
      exact ⟨by simp [onlyChanges_iff, continueSlot], rfl⟩
    | complete => exact ⟨endOwnership_changes slot s, endOwnership_bus slot s⟩
    | retry => exact ⟨endOwnership_changes slot s, endOwnership_bus slot s⟩
    | abort => exact ⟨endOwnership_changes slot s, endOwnership_bus slot s⟩
  · have nobodyMay : mayBeClaimed s = false := by simp [mayBeClaimed, nobody]
    refine congrArg Host.Outcome.next ?_
    split
    · simp [nobodyMay]
    · rfl
  · refine ⟨_, congrArg Host.Outcome.next ?_, endOwnership_expires slot d s⟩
    simp [awaitingSlot, owner, phase, deadline]

/-- Settles O51, by the look at the line and the withdrawal of a PENDING event. -/
theorem interruptLinesRaiseAndWithdraw : Obligations.InterruptLinesRaiseAndWithdraw := by
  refine ⟨fun slot s u raised => ?_, fun slot s => ?_⟩
  · have agree : EventsAgree u u := ⟨rfl, rfl, rfl, rfl, rfl⟩
    obtain ⟨raises, idles⟩ := lookAtLine_settles (slot := slot) (t := lookAtLine slot u) agree rfl rfl
    have run : exec (.interruptAssertion slot) s = .next (lookAtLine slot u) := raised ▸ rfl
    have lines : u.events.lines = s.events.lines.set slot true := by rw [raised]; rfl
    have staging : u.staging = s.staging := by rw [raised]; rfl
    refine ⟨_, run, ?_, by rw [lookAtLine_lines, lines], raises, fun idle => ?_⟩
    · subst raised
      simp [onlyChanges_iff]
    · obtain ⟨events, lines⟩ := idles idle
      exact ⟨events, lines.trans staging⟩
  · generalize hl : s.setEvents { s.events with lines := s.events.lines.set slot false } = lowered
    have levels : lowered.events = { s.events with lines := s.events.lines.set slot false } := by rw [← hl]; rfl
    have staging : lowered.staging = s.staging := by rw [← hl]; rfl
    have looks : ∀ x, eventAt x lowered = eventAt x s := fun x => by simp [eventAt, levels]
    have run : exec (.interruptDeassertion slot) s = .next (if eligible slot s then withdrawEvent slot lowered else lowered) :=
      hl ▸ rfl
    have frame : OnlyChanges [.events, .staging] s (if eligible slot s then withdrawEvent slot lowered else lowered) := by
      rw [← hl]
      split <;> simp [onlyChanges_iff]
    refine ⟨_, run, frame, ?_⟩
    by_cases withdraws : eligible slot s = true ∧ ∃ d, (eventAt slot s).state = .pending d
    · obtain ⟨considered, pending⟩ := withdraws
      obtain ⟨offered, lines, drains, others⟩ := withdrawEvent_rest slot lowered
      have withdrawn := withdrawEvent_pending (slot := slot) (s := lowered) (by rwa [looks])
      rw [if_pos considered]
      refine ⟨by rw [lines, levels], by rw [offered, levels], fun _ _ => ⟨?_, ?_, ?_⟩, fun other => ?_⟩
      · exact withdrawEvent_ends looks pending
      · rw [withdrawn]
        exact eventDrainDropped_congr (u := setEvent slot (eventAt slot lowered).ended lowered) (by simp [staging]) rfl
          (dropEventDrain_drops slot _)
      · exact drains.trans (by rw [staging])
      · obtain ⟨d, pending⟩ := pending
        obtain out | none := other
        · simp [considered] at out
        · exact absurd pending (none d)
    · have same : (if eligible slot s then withdrawEvent slot lowered else lowered) = lowered := by
        split
        · next considered =>
          exact withdrawEvent_other fun d pending => withdraws ⟨considered, d, looks slot ▸ pending⟩
        · rfl
      rw [same]
      exact ⟨by rw [levels], by rw [levels], fun considered pending => absurd ⟨considered, pending⟩ withdraws,
        fun _ => ⟨by rw [levels], staging⟩⟩

/-- Settles O52, by the release of the slot and the look at its line. -/
theorem resetsComplete : Obligations.ResetsComplete := by
  refine ⟨fun slot d s u reset released => ?_, fun s resetting => ?_⟩
  · have run : exec (.slotResetEnd slot) s = .next (endSlotReset slot (passTo d s)) :=
      congrArg Host.Outcome.next (by simp [slotAt, reset])
    generalize hv : (if linkUp (passTo d s) = true then
        queueReport (.notice (.slotResetDone slot))
          (setSlot slot { slotAt slot (passTo d s) with resetDeadline := none } (passTo d s))
      else setSlot slot { slotAt slot (passTo d s) with resetDeadline := none } (passTo d s)) = v
    have ends : endSlotReset slot (passTo d s) = lookAtLine slot v := hv ▸ rfl
    have agree : EventsAgree u v := by
      subst released hv
      split <;> simp [EventsAgree, setSlot, slotAt]
    have levels : u.events = s.events ∧ u.staging = s.staging := by simp [released]
    obtain ⟨events, staging⟩ := levels
    obtain ⟨raises, idles⟩ := lookAtLine_settles (slot := slot) (t := lookAtLine slot v) agree rfl rfl
    have frame := after_changes (.slotResetEnd slot) s
    rw [← eq_after_of_exec run, ends] at frame
    rw [ends] at run
    refine ⟨_, run, onlyChanges_mono frame (by simp [touched]), ?_, ?_, ?_, ?_, raises, fun idle => ?_⟩
    · subst hv
      split <;> simp [passTo]
    · exact Eq.trans (by simp) agree.2.2.2.1
    · rw [lookAtLine_lines, agree.1, events]
    · rw [(lookAtLine_frame slot v).2.2.2.2.2.2.1]
      subst hv
      by_cases up : s.uplink.linkState = .up
      · simp [linkUp, up, queueReport]
      · simp [linkUp, up]
    · obtain ⟨sameEvents, sameStaging⟩ := idles idle
      exact ⟨sameEvents.trans events, sameStaging.trans staging⟩
  · have run : exec .reinitialisationComplete s = .next
        (if linkUp s then queueReport (.notice .resetDone) (s.setCommand { s.command with resetting := false })
        else s.setCommand { s.command with resetting := false }) := congrArg Host.Outcome.next (if_pos resetting)
    refine ⟨_, run, ?_, ?_⟩
    · split <;> simp [onlyChanges_iff]
    · by_cases up : s.uplink.linkState = .up
      · simp [linkUp, up, queueReport]
      · simp [linkUp, up]

end Sys2Proof
end

section
/-! The answers to the bridge master's presentations, completed drains and the moves of closed lines. -/

namespace Sys2Proof.Machine

/-! ### The bridge master -/

theorem exec_presentationAnswer {d : Downstream} {response : Response} {data : List Byte} {s : State}
    (access : s.master.access = some d) (phase : d.phase = .presenting) (fits : answerFits d response data s = true) :
    exec (.presentationAnswer response data) s = .next (followAnswer d response data s) := by
  refine congrArg Host.Outcome.next ?_
  simp only [access]
  exact if_pos ⟨phase, fits⟩

theorem exec_noClaim {d : Downstream} {deadline : Time} {s : State} (access : s.master.access = some d)
    (phase : d.phase = .presenting) (limit : s.bus.deadline = some deadline) :
    exec .noClaim s = .next (failAccess d .noTarget (passTo deadline s)) := by
  refine congrArg Host.Outcome.next ?_
  simp [access, limit, phase]

theorem releaseMaster_done {s u : State} (bus : u.bus = s.bus) (locks : u.locks = s.locks) (owner : s.bus.owner = .master) :
    (releaseMaster u).bus = masterDone s := by
  have held : lockHeld u = lockHeld s := lockHeld_congr (by rw [locks])
  unfold releaseMaster masterDone
  rw [held]
  by_cases h : lockHeld s = true
  · rw [if_pos h, if_pos h, bus]
    rfl
  · rw [if_neg h, if_neg h, dropBus_bus, masterReleased, bus, if_pos owner]

theorem claimants_congr_time (space : Space) (selected : Option Slot) {s u : State} (h : u.bus = s.bus) :
    claimants space selected u = claimants space selected s :=
  claimants_of_slots space selected (by rw [h])

/-- The freeing of every read line (R38, R43). -/
theorem lineAt_freeAllReads (j : LineIx) (s : State) :
    lineAt j (freeAllReads s) = if (lineAt j s).isRead = true then quieted (fun _ => true) (lineAt j s) else lineAt j s := by
  rw [freeAllReads, lineAt_freeReads]
  cases lineAt j s with
  | fetching b f r stale t => simp [Line.isFree, Line.isRead, Line.freed, quieted]
  | free => rfl
  | valid => rfl
  | error => rfl
  | gathering => rfl
  | closed => rfl

/-- The state in which the bridge master's access is gone and its bus is released (R83, R120). -/
def accessDone (s : State) : State := releaseMaster (setAccess none s)

theorem accessDone_spec {s : State} (owner : s.bus.owner = .master) :
    OnlyChanges [.master, .bus] s (accessDone s) ∧ (accessDone s).master = { s.master with access := none } ∧
      (accessDone s).bus = masterDone s :=
  ⟨by simp [onlyChanges_iff, accessDone], by simp [accessDone, setAccess], releaseMaster_done (by simp) (by simp) owner⟩

theorem lineAt_accessDone (j : LineIx) (s : State) : lineAt j (accessDone s) = lineAt j s := by
  simp [lineAt, accessDone]

theorem lineAt_complete (j : LineIx) (result : ResultCode) (body : List Byte) (s : State) :
    lineAt j (complete result body s) = lineAt j s := by
  simp [lineAt]

theorem orphaned_none {s : State} (h : s.command.executing = none) : orphaned s = true := by simp [orphaned, h]

theorem orphaned_some {x : Executing} {s : State} (h : s.command.executing = some x) : orphaned s = false := by
  simp [orphaned, h]

theorem failAccess_orphaned {d : Downstream} {code : ResultCode} {s : State} (h : orphaned s = true) :
    failAccess d code s = accessDone s := by
  simp [failAccess, h, accessDone]

/-- The answer to a presentation whose command is gone ends it, unless it is PARTIAL (R124; log 28). -/
theorem followAnswer_orphaned {d : Downstream} {response : Response} {data : List Byte} {s : State} (h : orphaned s = true)
    (whole : ∀ n, response ≠ .partly n) : followAnswer d response data s = accessDone s := by
  cases response with
  | complete =>
    cases write : d.write with
    | true => simp [followAnswer, write, finishWrite, h, accessDone]
    | false => simp [followAnswer, write, finishRead, h, accessDone]
  | partly n => exact absurd rfl (whole n)
  | retry => simp [followAnswer, retryAccess, h, accessDone]
  | abort => exact failAccess_orphaned h

/-- An access ends in failure (R120, R124). -/
theorem failAccess_ends {d : Downstream} {x : Executing} {code : ResultCode} {s : State}
    (executing : s.command.executing = some x) (owner : s.bus.owner = .master) :
    OnlyChanges [.master, .bus, .staging, .command] s (failAccess d code s) ∧
      (failAccess d code s).master = { s.master with access := none } ∧ (failAccess d code s).bus = masterDone s ∧
      (d.write = true ∧ 0 < d.bytesDone → ∀ j, lineAt j (failAccess d code s) =
        if (lineAt j s).isRead = true then quieted (fun _ => true) (lineAt j s) else lineAt j s) ∧
      (d.write = false ∨ d.bytesDone = 0 → (failAccess d code s).staging = s.staging) ∧
      (failAccess d code s).command =
        { s.command with
          executing := none
          replies := s.command.replies ++ [.reply x.tag x.code code [BitVec.ofNat 8 d.bytesDone, 0, 0, 0]] } := by
  obtain ⟨_, master, bus⟩ := accessDone_spec owner
  have lines : (accessDone s).staging = s.staging := by simp [accessDone]
  have command : (accessDone s).command = s.command := by simp [accessDone]
  have fails : failAccess d code s =
      complete code (doneBody d.bytesDone)
        (if d.write && decide (0 < d.bytesDone) then freeAllReads (accessDone s) else accessDone s) := by
    simp [failAccess, orphaned_some executing, accessDone]
  refine ⟨?_, ?_, ?_, fun wrote j => ?_, fun unwritten => ?_, ?_⟩
  · rw [fails]
    split <;> simp [onlyChanges_iff, accessDone]
  · rw [fails]
    split <;> simp [master]
  · rw [fails]
    split <;> simp [bus]
  · have freed : (d.write && decide (0 < d.bytesDone)) = true := by simpa using wrote
    rw [fails, if_pos freed, lineAt_complete, lineAt_freeAllReads, lineAt_accessDone]
  · have kept : ¬ (d.write && decide (0 < d.bytesDone)) = true := by
      obtain read | zero := unwritten
      · simp [read]
      · simp [zero]
    rw [fails, if_neg kept]
    simpa using lines
  · have running : ∀ v : State, v.command = s.command → (complete code (doneBody d.bytesDone) v).command =
        { s.command with
          executing := none
          replies := s.command.replies ++ [.reply x.tag x.code code [BitVec.ofNat 8 d.bytesDone, 0, 0, 0]] } := fun v same => by
      rw [complete_executing (by rw [same]; exact executing), State.setCommand_command, same]
      rfl
    rw [fails]
    split
    · exact running _ (by simpa using command)
    · exact running _ command

/-- A CARD_WRITE ends done (R121). -/
theorem finishWrite_eq {d : Downstream} {x : Executing} {s : State} (executing : s.command.executing = some x) :
    finishWrite d s = complete .ok (doneBody d.length) (freeAllReads (accessDone s)) := by
  simp [finishWrite, orphaned_some executing, accessDone]

/-- The record of a CARD_READ whose drain has begun (R122). -/
def drainingRead (d : Downstream) (data : List Byte) : Downstream :=
  { d with data := data, bytesDone := d.length, phase := .draining }

theorem finishRead_complete {d : Downstream} {x : Executing} {data : List Byte} {s : State}
    (executing : s.command.executing = some x)
    (drained : (startGlobalDrain (releaseMaster s)).staging.globalDrain = none) :
    finishRead d data s =
      complete .ok (doneBody d.length ++ data) (setAccess none (startGlobalDrain (releaseMaster s))) := by
  simp [finishRead, orphaned_some executing, drained]

theorem finishRead_waits {d : Downstream} {x : Executing} {data : List Byte} {s : State}
    (executing : s.command.executing = some x)
    (drains : (startGlobalDrain (releaseMaster s)).staging.globalDrain ≠ none) :
    finishRead d data s =
      setWait .drain (setAccess (some (drainingRead d data)) (startGlobalDrain (releaseMaster s))) := by
  obtain ⟨mark, drains⟩ := Option.ne_none_iff_exists'.mp drains
  simp [finishRead, orphaned_some executing, drains, drainingRead]

theorem retryAccess_counts {d : Downstream} {x : Executing} {s : State} (executing : s.command.executing = some x)
    (below : d.retryCount + 1 ≠ d.retryLimit) :
    retryAccess d s =
      if lockHeld s then presentAccess { d with retryCount := d.retryCount + 1 } s
      else releaseMaster (setAccess (some { d with retryCount := d.retryCount + 1, phase := .requesting }) s) := by
  simp [retryAccess, orphaned_some executing, below]

theorem retryAccess_fails {d : Downstream} {x : Executing} {s : State} (executing : s.command.executing = some x)
    (last : d.retryCount + 1 = d.retryLimit) :
    retryAccess d s = failAccess { d with retryCount := d.retryCount + 1 } .retryLimit s := by
  simp [retryAccess, orphaned_some executing, last]

end Sys2Proof.Machine

namespace Sys2Proof

open Sys2Proof.Machine

/-- Settles O50, by the answer. -/
theorem masterFollowsAnswers : Obligations.MasterFollowsAnswers := by
  refine ⟨fun d x s access phase write executing owner fits => ?_, fun d x data s access phase read executing owner fits => ?_,
    fun d n data s access phase fits => ?_, fun d x s access phase executing owner fits below => ?_, fun r data s nobody => ?_,
    fun d c time s access phase gone owner event => ?_, fun d x c code time s access phase executing owner event => ?_⟩
  · refine ⟨_, exec_presentationAnswer access phase fits, ?_⟩
    have follows : followAnswer d .complete [] s = complete .ok (doneBody d.length) (freeAllReads (accessDone s)) := by
      simp [followAnswer, write, finishWrite_eq executing]
    obtain ⟨_, master, bus⟩ := accessDone_spec owner
    rw [follows]
    refine ⟨by simp [onlyChanges_iff, accessDone], by simp [master], by simp [bus], fun j => ?_,
      by simp [freeAllReads, accessDone], ?_⟩
    · rw [lineAt_complete, lineAt_freeAllReads, lineAt_accessDone]
    · rw [complete_executing (x := x) (by simpa [accessDone] using executing)]
      simp [accessDone, doneBody]
  · refine ⟨_, exec_presentationAnswer access phase fits, ?_⟩
    have follows : followAnswer d .complete data s = finishRead d (d.data ++ data) s := by simp [followAnswer, read]
    have bus : (releaseMaster s).bus = masterDone s := releaseMaster_done rfl rfl owner
    obtain ⟨shut, marked⟩ := startGlobalDrain_spec (releaseMaster s)
    have shut : LinesShut (fun _ => true) s (startGlobalDrain (releaseMaster s)) := by
      have kept : (releaseMaster s).staging = s.staging := by simp
      simpa only [LinesShut, ClosedAppended, lineAt, kept] using shut
    have drainBus : (startGlobalDrain (releaseMaster s)).bus = masterDone s := by simpa using bus
    have drainMaster : (startGlobalDrain (releaseMaster s)).master = s.master := by simp
    have running : (startGlobalDrain (releaseMaster s)).command = s.command := by simp
    have frame : OnlyChanges [.bus, .staging] s (startGlobalDrain (releaseMaster s)) := by simp [onlyChanges_iff]
    rw [follows]
    by_cases drained : (startGlobalDrain (releaseMaster s)).staging.globalDrain = none
    · rw [finishRead_complete executing drained]
      generalize startGlobalDrain (releaseMaster s) = u at *
      refine ⟨?_, by simpa using drainBus, by simpa [LinesShut, ClosedAppended, lineAt] using shut, by simpa [DrainMarked] using marked,
        fun _ => ⟨by simp [setAccess, drainMaster], ?_⟩, fun some => absurd drained (by simpa using some)⟩
      · exact onlyChanges_trans frame (d := [.master, .command]) (by simp [onlyChanges_iff]) (by simp) (by simp)
      · rw [complete_executing (x := x) (by simpa [running] using executing)]
        simp [running, doneBody]
    · rw [finishRead_waits executing drained]
      generalize startGlobalDrain (releaseMaster s) = u at *
      refine ⟨?_, by simpa using drainBus, by simpa [LinesShut, ClosedAppended, lineAt] using shut, by simpa [DrainMarked] using marked,
        fun none => absurd (by simpa using none) drained, fun _ => ⟨by simp [setAccess, drainMaster, drainingRead], ?_⟩⟩
      · exact onlyChanges_trans frame (d := [.master, .command]) (by simp [onlyChanges_iff]) (by simp) (by simp)
      · rw [setWait_executing (x := x) (by simpa [running] using executing)]
        simp [running]
  · refine ⟨_, exec_presentationAnswer access phase fits, ?_⟩
    rw [followAnswer, continueAccess]
    refine ⟨by simp [onlyChanges_iff], by simp [presentAccess, Config.busTime, Config.us], ?_⟩
    simp [presentAccess, setAccess, phase]
  · refine ⟨_, exec_presentationAnswer access phase fits, ?_⟩
    rw [followAnswer, retryAccess_counts executing below]
    by_cases held : lockHeld s = true
    · rw [if_pos held, if_pos held, if_pos held]
      exact ⟨by simp [onlyChanges_iff], by simp [presentAccess, Config.busTime, Config.us], by simp [presentAccess, setAccess]⟩
    · rw [if_neg held, if_neg held, if_neg held]
      exact ⟨by simp [onlyChanges_iff], releaseMaster_done (by simp) (by simp) owner, by simp [setAccess]⟩
  · have noFit : ∀ d, answerFits d r data s = false := fun d => by simp [answerFits, mayBeClaimed, nobody]
    refine congrArg Host.Outcome.next ?_
    split
    · simp [noFit]
    · rfl
  · have orphan := orphaned_none gone
    obtain ⟨r, data, rfl, whole, fits, rfl⟩ | ⟨rfl, limit, deadline, rfl⟩ := event
    · obtain ⟨frame, master, bus⟩ := accessDone_spec owner
      refine ⟨_, exec_presentationAnswer access phase fits, ?_⟩
      rw [followAnswer_orphaned orphan whole]
      exact ⟨onlyChanges_mono frame (by simp), by simp [accessDone], master, bus⟩
    · obtain ⟨frame, master, bus⟩ := accessDone_spec (s := passTo limit s) owner
      refine ⟨_, exec_noClaim access phase deadline, ?_⟩
      rw [failAccess_orphaned (s := passTo limit s) orphan]
      exact ⟨onlyChanges_trans (passTo_changes limit s) frame (by simp) (by simp), by simp [accessDone, passTo], master, bus⟩
  · obtain ⟨rfl, rfl, fits, rfl⟩ | ⟨rfl, rfl, fits, last, rfl⟩ | ⟨rfl, rfl, limit, deadline, rfl⟩ := event
    · obtain ⟨frame, rest⟩ := failAccess_ends (d := d) (code := .targetAbort) executing owner
      exact ⟨_, exec_presentationAnswer access phase fits, onlyChanges_mono frame (by simp), frame.1 .time (by simp), rest⟩
    · obtain ⟨frame, rest⟩ := failAccess_ends (d := { d with retryCount := d.retryCount + 1 }) (code := .retryLimit) executing owner
      have run := exec_presentationAnswer access phase fits
      rw [followAnswer, retryAccess_fails executing last] at run
      exact ⟨_, run, onlyChanges_mono frame (by simp), frame.1 .time (by simp), rest⟩
    · obtain ⟨frame, rest⟩ := failAccess_ends (d := d) (code := .noTarget) (s := passTo limit s) executing owner
      exact ⟨_, exec_noClaim access phase deadline,
        onlyChanges_trans (passTo_changes limit s) frame (by simp) (by simp), frame.1 .time (by simp), rest⟩

end Sys2Proof
end

section
/-! The end of the episode, the limits, the report of drains and the moves of closed lines. -/

namespace Sys2Proof.Machine

/-! ### The report of a lock release -/

theorem lockReport_nothing {slot : Slot} {s : State}
    (h : ∀ e, s.locks.episode = some e → e.slot ≠ slot ∨ e.state = .abandoning ∨ (e.state = .opened ∧ e.endPending = true)) :
    lockReport slot s = s := by
  cases episode : s.locks.episode with
  | none => exact lockReport_none episode
  | some e =>
    obtain other | abandoned | ⟨opened, pending⟩ := h e episode
    · simp [lockReport, episode, other]
    · simp [lockReport, episode, abandoned]
    · simp [lockReport, episode, opened, pending]

theorem lockReport_queued {e : Episode} {s : State} (episode : s.locks.episode = some e) (state : e.state = .requested)
    (queued : e.beginQueued = true) :
    lockReport e.slot s = setEpisode (some { e with state := .abandoning, limit := none }) s := by
  simp [lockReport, episode, state, queued]

theorem lockReport_withdraws {e : Episode} {s : State} (episode : s.locks.episode = some e) (state : e.state = .requested)
    (unqueued : e.beginQueued = false) (quiet : NoneWaitsForEpisode s) :
    lockReport e.slot s = setEpisode none (dropEpisodeDrain e.slot s) := by
  have still : NoneWaitsForEpisode (dropEpisodeDrain e.slot s) := by simpa [NoneWaitsForEpisode] using quiet
  rw [← toNone_quiet still]
  simp [lockReport, episode, state, unqueued]

theorem lockReport_opened {e : Episode} {s : State} (episode : s.locks.episode = some e) (state : e.state = .opened)
    (unended : e.endPending = false) : lockReport e.slot s = postEnd { e with limit := none, heldRead := none } s := by
  simp [lockReport, episode, state, unended]

/-- The EXCL_END joins the posted-write queue, or waits for its reserved place (R106). -/
theorem postEnd_room {e : Episode} {s : State} (quiet : NoneWaitsForEpisode s) (room : s.tracker.posted.length < 16) :
    OnlyChanges [.locks, .tracker] s (postEnd e s) ∧ (postEnd e s).locks = { s.locks with episode := none } ∧
      (postEnd e s).tracker = joined e.slot .exclEnd e.hostAddress true s.tracker := by
  rw [postEnd_quiet quiet, if_pos room]
  exact ⟨by simp [onlyChanges_iff], by simp [setEpisode], by simp [joinPosted_tracker, joined]⟩

theorem postEnd_full {e : Episode} {s : State} (quiet : NoneWaitsForEpisode s) (full : 16 ≤ s.tracker.posted.length) :
    postEnd e s = setEpisode (some { e with endPending := true }) s := by
  rw [postEnd_quiet quiet, if_neg (Nat.not_lt.mpr full)]

theorem joinEnd_of_room {e : Episode} {s : State} (room : s.tracker.posted.length < 16) : joinEnd e s = postEnd e s := by
  rw [postEnd, if_pos (postedRoom_iff.mpr room)]

/-- The report acts once: what it leaves, another report leaves as it is (R73). -/
theorem lockReport_again (slot : Slot) (s : State) : lockReport slot (lockReport slot s) = lockReport slot s := by
  cases episode : s.locks.episode with
  | none => rw [lockReport_none episode, lockReport_none episode]
  | some e =>
    by_cases nothing : e.slot ≠ slot ∨ e.state = .abandoning ∨ (e.state = .opened ∧ e.endPending = true)
    · have same : lockReport slot s = s := lockReport_nothing fun e' found => by
        rw [episode] at found
        exact Option.some.inj found ▸ nothing
      rw [same, same]
    · simp only [not_or, not_and, ne_eq, not_not, Bool.not_eq_true] at nothing
      obtain ⟨rfl, active, unended⟩ := nothing
      cases state : e.state with
      | requested =>
        cases queued : e.beginQueued with
        | true =>
          rw [lockReport_queued episode state queued]
          exact lockReport_nothing fun e' found => .inr (.inl (by rw [← Option.some.inj found]))
        | false =>
          have withdraws : lockReport e.slot s = toNone (dropEpisodeDrain e.slot s) := by
            simp [lockReport, episode, state, queued]
          rw [withdraws]
          exact lockReport_none (by rw [toNone_locks])
      | opened =>
        rw [lockReport_opened episode state (unended state)]
        by_cases room : s.tracker.posted.length < 16
        · rw [← joinEnd_of_room room]
          exact lockReport_none (by rw [joinEnd_locks])
        · have waits := postEnd_locks { e with limit := none, heldRead := none } s
          rw [if_neg (mt postedRoom_iff.mp room)] at waits
          refine lockReport_nothing fun e' found => .inr (.inr ?_)
          rw [waits] at found
          rw [← Option.some.inj found]
          exact ⟨state, rfl⟩
      | abandoning => exact absurd state active

/-! ### The moves of closed lines -/

theorem moved_mark (i : LineIx) (n : BitVec 16) (m : Option Mark) :
    m.map (Mark.moved i n) = if m = some (.line i) then some (.posted n) else m := by
  cases m with
  | none => rfl
  | some m =>
    by_cases h : m = .line i
    · simp [Mark.moved, h]
    · simp [Mark.moved, h]

theorem unreservedRoom_iff {s : State} :
    unreservedRoom s = true ↔ s.tracker.posted.length < 16 ∧ endWaiting s = false := by
  rw [unreservedRoom, Bool.and_eq_true, postedRoom_iff, Bool.not_eq_true']

/-! ### The request for the EXCL_BEGIN's tag -/

theorem allocateTag_some {q : Request} {k : TagIx} {s : State} (h : lowestFreeTag s = some k) :
    allocateTag q s = some (⟨k, (s.tracker.tags.get k).generation⟩, s.setTracker (allocated k q s.tracker)) := by
  simp [allocateTag, h, allocated]

theorem allocateTag_none {q : Request} {s : State} (h : lowestFreeTag s = none) : allocateTag q s = none := by
  simp [allocateTag, h]

theorem episodeDrained_asks {e : Episode} {k : TagIx} {s : State} (episode : s.locks.episode = some e)
    (state : e.state = .requested) (unqueued : e.beginQueued = false) (tag : lowestFreeTag s = some k) :
    episodeDrained e.slot s =
      setEpisode (some { e with beginQueued := true, beginTag := some ⟨k, (s.tracker.tags.get k).generation⟩ })
        (s.setTracker
          (allocated k { purpose := .exclBegin, hostAddress := e.hostAddress, length := 0, slot := e.slot } s.tracker)) := by
  simp [episodeDrained, episode, state, unqueued, askBegin, allocateTag_some tag]

theorem episodeDrained_refused {slot : Slot} {s : State} (none : lowestFreeTag s = none) : episodeDrained slot s = s := by
  unfold episodeDrained
  split
  · simp [askBegin, allocateTag_none none]
  · rfl

theorem eventDrained_up {slot : Slot} {d : Bool} {s : State} (up : s.uplink.linkState = .up)
    (pending : (eventAt slot s).state = .pending d) : eventDrained slot s = offerEvent slot s := by
  simp [eventDrained, pending, linkUp, up]

theorem eventDrained_down {slot : Slot} {d : Bool} {s : State} (down : s.uplink.linkState ≠ .up)
    (pending : (eventAt slot s).state = .pending d) :
    eventDrained slot s = setEvent slot { eventAt slot s with state := .pending true } s := by
  simp [eventDrained, pending, linkUp, down]

theorem finishDrain_plain {s : State} (h : ∀ d, s.master.access = some d → d.phase ≠ .draining) :
    finishDrain s = complete .ok [] s := by
  unfold finishDrain
  split
  · exact if_neg (h _ ‹_›)
  · rfl

theorem finishDrain_read {d : Downstream} {s : State} (access : s.master.access = some d) (phase : d.phase = .draining) :
    finishDrain s =
      complete .ok ([BitVec.ofNat 8 d.bytesDone, 0, 0, 0] ++ d.data) (s.setMaster { s.master with access := none }) := by
  simp [finishDrain, access, phase]

/-! ### The episode limit -/

/-- The fault record of an episode that overruns (R107). -/
def overrunReport (slot : Slot) : FaultReport := { kind := .exclOverrun, slot := some slot }

/-- The Fault Unit has the overrun, and the Lock Unit and the Upstream Tracker have gone on from there (R107). -/
structure Overruns (o t : State) : Prop where
  frame : OnlyChanges [.tracker, .locks, .staging] o t
  staging : t.staging = { o.staging with slotDrains := t.staging.slotDrains }

theorem overruns_spec {slot : Slot} {d : Time} {s t : State} (h : Overruns (takeFault (overrunReport slot) (passTo d s)) t) :
    OnlyChanges [.bus, .staging, .tracker, .locks, .faults, .time] s t ∧ t.now = max s.now d ∧
      FaultTaken { kind := .exclOverrun, slot := some slot }
        ((s.bus.slots.get slot).autofence && !(s.bus.slots.get slot).fenced) s t ∧
      ((s.bus.slots.get slot).autofence = true ∧ (s.bus.slots.get slot).fenced = false → SlotFenced slot s t) ∧
      ((s.bus.slots.get slot).autofence = false ∨ (s.bus.slots.get slot).fenced = true →
        t.bus = s.bus ∧ t.staging.lines = s.staging.lines) := by
  obtain ⟨frame, staging⟩ := h
  obtain ⟨kept, _⟩ := id frame
  have bus : t.bus = (takeFault (overrunReport slot) (passTo d s)).bus := kept .bus (by simp)
  have faults : t.faults = (takeFault (overrunReport slot) (passTo d s)).faults := kept .faults (by simp)
  have now : t.now = (takeFault (overrunReport slot) (passTo d s)).now := kept .time (by simp)
  have fences : autofences (overrunReport slot) (passTo d s) =
      ((s.bus.slots.get slot).autofence && !(s.bus.slots.get slot).fenced) := rfl
  have reported : OnlyChanges [.bus, .staging, .faults, .time] s (takeFault (overrunReport slot) (passTo d s)) := by
    simp [onlyChanges_iff]
  refine ⟨onlyChanges_trans reported frame (by simp) (by simp), now.trans (by simp [passTo]), ?_, fun fenced => ?_,
    fun unfenced => ?_⟩
  · have taken := takeFault_taken (overrunReport slot) (passTo d s)
    rw [fences, FaultTaken, ← faults] at taken
    exact taken
  · obtain ⟨auto, free⟩ := fenced
    have done : SlotFenced slot s (takeFault (overrunReport slot) (passTo d s)) :=
      (takeFault_fences (r := overrunReport slot) (s := passTo d s) rfl (by rw [fences, auto, free]; rfl)).1
    have lines := congrArg Staging.lines staging
    have order := congrArg Staging.closedOrder staging
    have lru := congrArg Staging.lru staging
    have settings := congrArg (fun u : Staging => (u.buffering, u.readAhead, u.gatherIdle, u.globalDrain, u.mapBarrier)) staging
    simp only [Prod.mk.injEq] at settings
    obtain ⟨buffering, readAhead, gatherIdle, globalDrain, mapBarrier⟩ := settings
    simpa only [SlotFenced, LinesQuieted, ClosedAppended, SettingsKept, MarksKept, lineAt, bus, lines, order, lru, buffering,
      readAhead, gatherIdle, globalDrain, mapBarrier] using done
  · have plain : autofences (overrunReport slot) (passTo d s) = false := by
      rw [fences]
      obtain off | already := unfenced
      · simp [off]
      · simp [already]
    obtain ⟨sameBus, sameStaging⟩ := takeFault_unfenced plain
    exact ⟨bus.trans sameBus, by rw [staging, sameStaging]; rfl⟩

theorem overruns_setEpisode (e : Option Episode) (o : State) : Overruns o (setEpisode e o) :=
  ⟨by simp [onlyChanges_iff], rfl⟩

theorem overruns_withdrawn (slot : Slot) (o : State) : Overruns o (setEpisode none (dropEpisodeDrain slot o)) :=
  ⟨by simp [onlyChanges_iff], by simp [dropEpisodeDrain, setDrains]⟩

theorem overruns_posted {e : Episode} {o : State} (quiet : NoneWaitsForEpisode o) (room : o.tracker.posted.length < 16) :
    Overruns o (postEnd e o) := by
  obtain ⟨frame, _, _⟩ := postEnd_room (e := e) quiet room
  have staging : (postEnd e o).staging = o.staging := frame.1 .staging (by simp)
  exact ⟨onlyChanges_mono frame (by simp), by rw [staging]⟩

/-- The episode as its limit leaves it in OPEN (R107). -/
def expiredEpisode (e : Episode) : Episode :=
  { e with state := .abandoning, limit := none, heldRead := if e.heldRead.any HeldRead.isWaiting then e.heldRead else none }

theorem expireEpisode_opened {e : Episode} {s : State} (state : e.state = .opened) :
    expireEpisode e s =
      if (expiredEpisode e).heldRead.isSome then setEpisode (some (expiredEpisode e)) (takeFault (overrunReport e.slot) s)
      else postEnd (expiredEpisode e) (takeFault (overrunReport e.slot) s) := by
  simp only [expireEpisode, state]
  rfl

end Sys2Proof.Machine

namespace Sys2Proof

open Sys2Proof.Machine

/-- Settles O46, by the state of the episode. -/
theorem lockReleaseEndsEpisode : Obligations.LockReleaseEndsEpisode := by
  refine ⟨fun slot s nothing => congrArg Host.Outcome.next (lockReport_nothing nothing),
    fun slot e s episode named state quiet => ?_, fun slot e s episode named state unended quiet => ?_,
    fun e s episode ended room quiet => ?_, fun slot address x s r owner idle formed run => ?_⟩
  · subst named
    refine ⟨_, rfl, ?_⟩
    cases queued : e.beginQueued with
    | true =>
      rw [lockReport_queued episode state queued]
      exact ⟨by simp [onlyChanges_iff], by simp, by simp, by simp [setEpisode, queued]⟩
    | false =>
      rw [lockReport_withdraws episode state queued quiet]
      exact ⟨by simp [onlyChanges_iff], by simp [dropEpisodeDrain, setDrains], by simp [dropEpisodeDrain, setDrains],
        by simp [setEpisode]⟩
  · subst named
    refine ⟨_, rfl, fun room => ?_, fun full => ?_⟩
    · rw [lockReport_opened episode state unended]
      exact postEnd_room quiet room
    · rw [lockReport_opened episode state unended, postEnd_full quiet full]
      exact ⟨by simp [onlyChanges_iff], by simp [setEpisode]⟩
  · have run : exec .exclEndPlaced s = .next (postEnd e s) := by
      refine congrArg Host.Outcome.next ?_
      simp [episode, ended, postedRoom_iff.mpr room, joinEnd_of_room room]
    exact ⟨_, run, postEnd_room quiet room⟩
  · have again : lockReport slot r = r := lockReport_of_exec run ▸ lockReport_again slot s
    have bus : r.bus = s.bus := lockReport_of_exec run ▸ by simp
    refine congrArg Host.Outcome.next ?_
    rw [mayPresent_of owner idle, mayPresent_of (by rw [bus]; exact owner) (by rw [bus]; exact idle)]
    simp only [Bool.false_eq_true, if_false, again, ← lockReport_of_exec run, formed, Bool.and_true, if_true]

/-- Settles O54, by the head of the closed-order list. -/
theorem closedLinesMoveInOrder : Obligations.ClosedLinesMoveInOrder := by
  refine ⟨fun i b data v d s line => ?_, fun s stays => ?_, fun i rest b data v s order line room unreserved => ?_⟩
  · have run : exec (.gatherIdleExpiry i) s = .next (closeLine (passTo d s) i) :=
      congrArg Host.Outcome.next (by simp only [line])
    have closed : closeLine (passTo d s) i =
        (passTo d s).setStaging
          { s.staging with
            lines := s.staging.lines.set i (.closed b data v)
            closedOrder := s.staging.closedOrder ++ [i] } := by
      have same : lineAt i (passTo d s) = .gathering b data v d := line
      simp [closeLine, same]
    refine ⟨_, run, ?_⟩
    rw [closed]
    exact ⟨by simp [onlyChanges_iff], by simp [passTo], by simp⟩
  · refine congrArg Host.Outcome.next ?_
    by_cases room : unreservedRoom s = true
    · obtain ⟨low, free⟩ := unreservedRoom_iff.mp room
      obtain full | waits | empty := stays
      · omega
      · simp [waits] at free
      · simp [moveClosed, empty]
    · exact if_neg room
  · have run : exec .closedLineMove s = .next (moveClosed s) :=
      congrArg Host.Outcome.next (if_pos (unreservedRoom_iff.mpr ⟨room, unreserved⟩))
    refine ⟨_, run, ?_⟩
    simp only [moveClosed, order, line]
    refine ⟨by simp [onlyChanges_iff], joinPosted_tracker .., ?_, fun j other => ?_, ?_, ?_, ?_, ?_, ?_, ?_⟩
    · simp [lineAt]
    · simp [lineAt, Ne.symm other]
    · simp
    · simp
    · simp [SettingsKept]
    · simp
    · simp [moved_mark]
    · simp [moved_mark]

/-- Settles O53, by the requesters of the drains. -/
theorem drainsAreReported : Obligations.DrainsAreReported := by
  refine ⟨fun slot d s complete other pending => ?_, fun e k c s episode state unqueued tag event => ?_,
    fun x s drained executing plain => ?_, fun x d s drained executing access phase => ?_, fun x s drained executing => ?_⟩
  · have drops : exec (.slotDrainComplete slot) s = .next (eventDrained slot
        (setDrains slot { s.staging.slotDrains.get slot with event := .idle } s)) :=
      congrArg Host.Outcome.next (by simp [reportEventDrain, reportEpisodeDrain, setDrains, complete, other])
    refine ⟨_, drops, ?_⟩
    have pending' : (eventAt slot (setDrains slot { s.staging.slotDrains.get slot with event := .idle } s)).state = .pending d := by
      simpa [eventAt] using pending
    by_cases up : s.uplink.linkState = .up
    · rw [eventDrained_up (by simpa using up) pending']
      exact ⟨by simp [onlyChanges_iff], by simp [setDrains], by simp [offerEvent, eventAt, up]⟩
    · rw [eventDrained_down (by simpa using up) pending']
      exact ⟨by simp [onlyChanges_iff], by simp [setDrains], by simp [setEvent, eventAt, up]⟩
  · obtain ⟨rfl, complete, other⟩ | ⟨rfl, idle⟩ := event
    · have drops : exec (.slotDrainComplete e.slot) s = .next (episodeDrained e.slot
          (setDrains e.slot { s.staging.slotDrains.get e.slot with episode := .idle } s)) :=
        congrArg Host.Outcome.next (by simp [reportEventDrain, reportEpisodeDrain, complete, other])
      refine ⟨_, drops, ?_⟩
      rw [episodeDrained_asks (e := e) (k := k) (by simpa using episode) state unqueued
        ((lowestFreeTag_congr (by simp)).trans tag)]
      exact ⟨by simp [onlyChanges_iff], by simp [setDrains], by simp [setDrains], by simp, by simp [setEpisode]⟩
    · have asks : exec .exclBeginAllocation s = .next (episodeDrained e.slot s) :=
        congrArg Host.Outcome.next (by simp [episode, idle])
      refine ⟨_, asks, ?_⟩
      rw [episodeDrained_asks episode state unqueued tag]
      exact ⟨by simp [onlyChanges_iff], by simp, by simpa using idle, by simp, by simp [setEpisode]⟩
  · refine ⟨_, congrArg Host.Outcome.next (if_pos drained), ?_⟩
    rw [finishDrain_plain (by simpa using plain), complete_executing (x := x) (by simpa using executing)]
    exact ⟨by simp [onlyChanges_iff], by simp, by simp⟩
  · refine ⟨_, congrArg Host.Outcome.next (if_pos drained), ?_⟩
    rw [finishDrain_read (d := d) (by simpa using access) phase, complete_executing (x := x) (by simpa using executing)]
    exact ⟨by simp [onlyChanges_iff], by simp, by simp, by simp⟩
  · refine ⟨_, congrArg Host.Outcome.next (if_pos drained), ?_⟩
    rw [complete_executing (x := x) (by simpa using executing)]
    exact ⟨by simp [onlyChanges_iff], by simp, by simp⟩

/-- Settles O47, by the state of the episode, and by the bridge master. -/
theorem lockLimitsExpire : Obligations.LockLimitsExpire := by
  refine ⟨fun e d s episode limit state unended quiet room => ?_, fun d s held => ?_⟩
  · have run : exec .episodeLimitExpiry s = .next (expireEpisode e (passTo d s)) :=
      congrArg Host.Outcome.next (by simp [episode, limit])
    generalize ho : takeFault (overrunReport e.slot) (passTo d s) = o
    have tracker : o.tracker = s.tracker := by simp [← ho]
    have locks : o.locks = s.locks := by simp [← ho]
    have still : NoneWaitsForEpisode o := by simpa [NoneWaitsForEpisode, ← ho] using quiet
    have spec : ∀ {t}, Overruns o t → _ := fun h => overruns_spec (slot := e.slot) (d := d) (s := s) (ho ▸ h)
    cases phase : e.state with
    | requested =>
      cases queued : e.beginQueued with
      | true =>
        have expires : expireEpisode e (passTo d s) = setEpisode (some { e with state := .abandoning, limit := none }) o := by
          simp [expireEpisode, phase, queued, ← ho, overrunReport]
        rw [expires] at run
        obtain ⟨frame, now, taken, fences, plain⟩ := spec (overruns_setEpisode _ o)
        exact ⟨_, run, frame, now, taken, fences, plain, fun _ => ⟨by simpa using tracker, by simp [setEpisode, locks, queued]⟩, by simp,
          by simp⟩
      | false =>
        have withdrawn : NoneWaitsForEpisode (dropEpisodeDrain e.slot o) := by simpa [NoneWaitsForEpisode] using still
        have expires : expireEpisode e (passTo d s) = setEpisode none (dropEpisodeDrain e.slot o) := by
          rw [← toNone_quiet withdrawn]
          simp [expireEpisode, phase, queued, ← ho, overrunReport]
        rw [expires] at run
        obtain ⟨frame, now, taken, fences, plain⟩ := spec (overruns_withdrawn e.slot o)
        exact ⟨_, run, frame, now, taken, fences, plain, fun _ => ⟨by simpa using tracker, by simp [setEpisode, locks]⟩, by simp,
          by simp⟩
    | opened =>
      rw [expireEpisode_opened phase, ho] at run
      by_cases waits : e.heldRead.any HeldRead.isWaiting = true
      · have left : expiredEpisode e = { e with state := .abandoning, limit := none } := by simp [expiredEpisode, waits]
        obtain ⟨h, held, waiting⟩ := (Option.any_eq_true ..).mp waits
        rw [left, if_pos (by simp [held])] at run
        obtain ⟨frame, now, taken, fences, plain⟩ := spec (overruns_setEpisode _ o)
        refine ⟨_, run, frame, now, taken, fences, plain, by simp, fun _ _ _ _ => ⟨by simpa using tracker, by simp [setEpisode, locks]⟩,
          fun _ past => absurd ?_ (past h held)⟩
        simpa [HeldRead.isWaiting] using waiting
      · have left : expiredEpisode e = { e with state := .abandoning, limit := none, heldRead := none } := by
          simp [expiredEpisode, waits]
        rw [left, if_neg (by simp)] at run
        have room' : o.tracker.posted.length < 16 := by rw [tracker]; exact room
        obtain ⟨frame, now, taken, fences, plain⟩ := spec (overruns_posted still room')
        obtain ⟨_, ends, posted⟩ := postEnd_room (e := { e with state := .abandoning, limit := none, heldRead := none }) still room'
        refine ⟨_, run, frame, now, taken, fences, plain, by simp, fun h _ held waiting => absurd ?_ waits,
          fun _ _ => ⟨by rw [posted, tracker], by rw [ends, locks]⟩⟩
        simp [held, HeldRead.isWaiting, waiting]
    | abandoning => exact absurd phase state
  · have run : exec .lockLimitExpiry s = .next (expireLock (passTo d s)) :=
      congrArg Host.Outcome.next (by simp [held])
    have present : masterPresenting (passTo d s) = masterPresenting s := rfl
    refine ⟨_, run, ?_⟩
    rw [expireLock, present]
    cases masterPresenting s with
    | true => exact ⟨by simp [onlyChanges_iff], by simp [passTo], by simp, by simp [queueReport], by simp, by simp⟩
    | false =>
      refine ⟨by simp [onlyChanges_iff], by simp [passTo], by simp, by simp [queueReport], by simp, fun _ owner => ?_⟩
      rw [if_neg Bool.false_ne_true, dropBus_bus]
      simp [masterReleased, owner]

end Sys2Proof
end

section
/-! Locked accesses: the beginning of an episode, reads and writes in OPEN, and the result of a LOCKED_READ. -/

namespace Sys2Proof.Machine

/-! ### A translated presentation -/

theorem slot_of_translate {m : PageMap} {slot : Slot} {a : CardAddr} {write lock : Bool} {tr : Translation}
    (h : translate m slot a write lock = .passed tr) : tr.slot = slot := by
  unfold translate at h
  dsimp only at h
  split at h
  · cases h
  · split at h
    · cases h
    · split at h
      · cases h
      · cases h
        rfl

/-- A presentation that is translated is answered by the block that serves it (R8, R75, R77). -/
theorem exec_translates {slot : Slot} {a : CardAddr} {x : Transfer} {lock : Bool} {tr : Translation} {ans : Answer} {s r u : State}
    (h : Translates slot a x lock tr s r) (served : serve tr (cutTransfer (blockLength a x) x) lock r = (ans, u)) :
    ∃ t, exec (.slotPresentation slot (.memory a) x lock) s = .next t ∧ BusAnswered slot a x ans r t ∧
      t.bus.slots = r.bus.slots ∧ OnlyChanges [.bus] u t := by
  obtain ⟨presents, passes, passed⟩ := h
  have run := exec_passesGates presents passes
  rw [translateAndServe_passed (by rwa [writes_cutTransfer]), served] at run
  obtain ⟨_, owner⟩ := exec_presents presents
  obtain ⟨_, bus, _⟩ := serve_keeps tr (cutTransfer (blockLength a x) x) lock r
  rw [served] at bus
  obtain ⟨answered, slots⟩ := respond_answers (slot := slot) (a := a) (x := x) (ans := ans) (r := r) (u := u)
    (by rw [bus, owner]) (by rw [bus]) (by rw [bus])
  exact ⟨_, run, answered, slots.trans (by rw [bus]), respond_changes ..⟩

/-! ### The lines of a locked access -/

theorem isWrite_quieted (p : Binding → Bool) (l : Line) :
    (quieted p l).isWrite = l.isWrite ∧ (l.isWrite = true → (quieted p l).binding = l.binding) := by
  cases l with
  | free => exact ⟨rfl, fun _ => rfl⟩
  | fetching => exact ⟨rfl, fun _ => rfl⟩
  | valid b => cases h : p b <;> simp [quieted, Line.isWrite, h]
  | error b => cases h : p b <;> simp [quieted, Line.isWrite, h]
  | gathering b => cases h : p b <;> simp [quieted, Line.isWrite, Line.binding, h]
  | closed => exact ⟨rfl, fun _ => rfl⟩

/-- Quieting leaves the slot's untransmitted writes as they are (R39). -/
theorem untransmitted_of_quieted {p : Binding → Bool} {s t : State} (h : LinesQuieted p s t) (tracker : t.tracker = s.tracker)
    (slot : Slot) : untransmitted slot t = untransmitted slot s := by
  have line : ∀ j, ((lineAt j t).isWrite && (lineAt j t).ofSlot slot) = ((lineAt j s).isWrite && (lineAt j s).ofSlot slot) := by
    intro j
    obtain ⟨write, binding⟩ := isWrite_quieted p (lineAt j s)
    rw [h.1, write]
    cases written : (lineAt j s).isWrite with
    | false => rfl
    | true => rw [ofSlot_eq, ofSlot_eq, binding written]
  have lines : t.staging.lines.items.any (fun l => l.isWrite && l.ofSlot slot) =
      s.staging.lines.items.any (fun l => l.isWrite && l.ofSlot slot) := by
    rw [Bool.eq_iff_iff, any_lines, any_lines]
    simp only [line]
  simp only [untransmitted, hasPosted, tracker, lines]

/-- A slot that has been quieted has no GATHERING line (R36). -/
theorem closeGathering_quieted {slot : Slot} {s t u : State} (h : LinesQuieted (boundTo slot) s t) (lines : u.staging.lines = t.staging.lines) :
    closeGathering slot u = u := by
  have none : gatheringWhere (fun b => b.slot == slot) u = [] := by
    refine List.filter_eq_nil_iff.mpr fun j _ => ?_
    have line : lineAt j u = quieted (boundTo slot) (lineAt j s) := by rw [lineAt, lines]; exact h.1 j
    rw [line]
    cases lineAt j s with
    | gathering b => cases same : boundTo slot b <;> simp_all [quieted, Line.isGathering, Line.binding, boundTo]
    | free => simp [quieted, Line.isGathering]
    | fetching => simp [quieted, Line.isGathering]
    | valid b => cases same : boundTo slot b <;> simp [quieted, Line.isGathering, same]
    | error b => cases same : boundTo slot b <;> simp [quieted, Line.isGathering, same]
    | closed => simp [quieted, Line.isGathering]
  rw [closeGathering, none]
  rfl

section

variable {tr : Translation} {x : Transfer} {e : Episode} {r : State}

/-! A locked access comes after the quieting of the slot's lines (R101, R43). -/

theorem serve_inNone (free : r.locks.episode = none) : serve tr x true r = lockedInNone tr (quiesceSlot tr.slot r) := by
  have quiet : (freeSlotReads tr.slot (closeGathering tr.slot r)).locks.episode = none := by simpa using free
  simp only [serve, if_true, lockedAccess, quiet]
  rfl

theorem serve_requested (episode : r.locks.episode = some e) (named : e.slot = tr.slot) (state : e.state = .requested) :
    serve tr x true r = (.retry, quiesceSlot tr.slot r) := by
  have running : (freeSlotReads tr.slot (closeGathering tr.slot r)).locks.episode = some e := by simpa using episode
  simp only [serve, if_true, lockedAccess, running, named, state, ne_eq, not_true_eq_false, if_false]
  rfl

theorem serve_abandoning (episode : r.locks.episode = some e) (named : e.slot = tr.slot) (state : e.state = .abandoning) :
    serve tr x true r = (.abort, quiesceSlot tr.slot r) := by
  have running : (freeSlotReads tr.slot (closeGathering tr.slot r)).locks.episode = some e := by simpa using episode
  simp only [serve, if_true, lockedAccess, running, named, state, ne_eq, not_true_eq_false, if_false]
  rfl

theorem serve_lockedRead {n : Nat} (episode : r.locks.episode = some e) (named : e.slot = tr.slot) (state : e.state = .opened) :
    serve tr (.read n) true r = lockedRead e tr n (quiesceSlot tr.slot r) := by
  have running : (freeSlotReads tr.slot (closeGathering tr.slot r)).locks.episode = some e := by simpa using episode
  simp only [serve, if_true, lockedAccess, running, named, state, ne_eq, not_true_eq_false, if_false]
  rfl

theorem serve_lockedWrite {bytes : List Byte} (episode : r.locks.episode = some e) (named : e.slot = tr.slot)
    (state : e.state = .opened) : serve tr (.write bytes) true r = lockedWrite e tr bytes (quiesceSlot tr.slot r) := by
  have running : (freeSlotReads tr.slot (closeGathering tr.slot r)).locks.episode = some e := by simpa using episode
  simp only [serve, if_true, lockedAccess, running, named, state, ne_eq, not_true_eq_false, if_false]
  rfl

end

theorem quiesceSlot_changes (slot : Slot) (s : State) : OnlyChanges [.staging] s (quiesceSlot slot s) := by
  simp [onlyChanges_iff]

/-- The Staging Unit has quieted the slot's lines, and the access has left it so (R101, R43). -/
theorem lockedEffects_of {slot : Slot} {r u t : State} (staging : u.staging = (quiesceSlot slot r).staging)
    (answer : OnlyChanges [.bus] u t) (slots : t.bus.slots = r.bus.slots) : LockedEffects slot r t := by
  have same : (quiesceSlot slot r).staging = t.staging := (Eq.trans (answer.1 .staging (by simp)) staging).symm
  have rest := quiesceSlot_rest slot r
  rw [same] at rest
  obtain ⟨buffering, readAhead, gatherIdle, slotDrains, globalDrain, mapBarrier⟩ := rest
  exact ⟨linesQuieted_congr_right same (quiesceSlot_quiets slot r),
    ⟨⟨buffering, readAhead, gatherIdle⟩, ⟨globalDrain, mapBarrier⟩, slotDrains⟩, slots⟩

/-! ### The beginning of an episode -/

/-- The episode that a locked access begins (R101). -/
def newEpisode (tr : Translation) (s : State) : Episode :=
  { state := .requested, slot := tr.slot, hostAddress := tr.hostAddress, beginQueued := false, beginTag := none,
    limit := some (s.now + 2 * s.locks.episodeLimit), heldRead := none, endPending := false }

/-- The state in which the episode's drain has been begun, on lines quieted before (R101, R39). -/
def episodeBegun (tr : Translation) (s : State) : State :=
  setDrains tr.slot
    { s.staging.slotDrains.get tr.slot with episode := if untransmitted tr.slot s = true then .running else .idle }
    (setEpisode (some (newEpisode tr s)) s)

theorem beginEpisode_eq {tr : Translation} {s t : State} (h : LinesQuieted (boundTo tr.slot) s t) :
    beginEpisode tr t =
      if untransmitted tr.slot t = true then episodeBegun tr t else episodeDrained tr.slot (episodeBegun tr t) := by
  have closed : closeGathering tr.slot (setEpisode (some (newEpisode tr t)) t) = setEpisode (some (newEpisode tr t)) t :=
    closeGathering_quieted h (by simp)
  have writes : untransmitted tr.slot (setEpisode (some (newEpisode tr t)) t) = untransmitted tr.slot t := by
    simp [untransmitted, hasPosted]
  have begun : startSlotDrain .episode tr.slot (setEpisode (some (newEpisode tr t)) t) = episodeBegun tr t := by
    simp only [startSlotDrain, closed, writes]
    rfl
  have limit : newEpisode tr t =
      { state := .requested, slot := tr.slot, hostAddress := tr.hostAddress, beginQueued := false, beginTag := none,
        limit := some (t.now + Config.us t.locks.episodeLimit), heldRead := none, endPending := false } := rfl
  rw [beginEpisode, ← limit]
  simp only [begun]
  have phase : ((episodeBegun tr t).staging.slotDrains.get tr.slot).episode =
      if untransmitted tr.slot t = true then .running else .idle := by
    simp [episodeBegun, setDrains]
  rw [phase]
  cases untransmitted tr.slot t <;> rfl

theorem episodeBegun_changes (tr : Translation) (s : State) : OnlyChanges [.staging, .locks] s (episodeBegun tr s) := by
  simp [onlyChanges_iff, episodeBegun]

theorem episodeBegun_locks (tr : Translation) (s : State) :
    (episodeBegun tr s).locks = { s.locks with episode := some (newEpisode tr s) } := by
  simp [episodeBegun, setEpisode]

theorem episodeBegun_tracker (tr : Translation) (s : State) : (episodeBegun tr s).tracker = s.tracker := by
  simp [episodeBegun]

/-- The Staging Unit at the beginning of an episode: the lines quieted, the episode's drain begun (R101, R43, R39). -/
theorem episodeBegun_staging {tr : Translation} {r u t : State}
    (staging : u.staging = (episodeBegun tr (quiesceSlot tr.slot r)).staging) (answer : t.staging = u.staging) :
    LinesQuieted (boundTo tr.slot) r t ∧ SettingsKept r t ∧ MarksKept r t ∧
      ∀ y, t.staging.slotDrains.get y =
        if y = tr.slot then
          { r.staging.slotDrains.get y with episode := if untransmitted tr.slot r = true then .running else .idle }
        else r.staging.slotDrains.get y := by
  have same := answer.trans staging
  have writes : untransmitted tr.slot (quiesceSlot tr.slot r) = untransmitted tr.slot r :=
    untransmitted_of_quieted (quiesceSlot_quiets tr.slot r) (by simp) tr.slot
  refine ⟨?_, ?_, ?_, fun y => ?_⟩
  · have quieted := quiesceSlot_quiets tr.slot r
    simpa only [LinesQuieted, ClosedAppended, lineAt, same, episodeBegun, setDrains, State.setStaging_staging,
      setEpisode_frame] using quieted
  · simp [SettingsKept, same, episodeBegun, setDrains]
  · simp [MarksKept, same, episodeBegun, setDrains]
  · rw [same]
    by_cases mine : y = tr.slot
    · subst mine
      simp [episodeBegun, setDrains, writes]
    · simp [episodeBegun, setDrains, mine, Ne.symm mine]

/-! ### Reads and writes in OPEN -/

theorem openLockedRead_staging (e : Episode) (tr : Translation) (n : Nat) (s : State) :
    (openLockedRead e tr n s).staging = s.staging := by
  unfold openLockedRead
  dsimp only
  split
  · simp
  · split
    · next found =>
      obtain ⟨_, after⟩ := allocateTag_eq found
      simp [after]
    · simp

theorem lockedRead_staging (e : Episode) (tr : Translation) (n : Nat) (s : State) :
    (lockedRead e tr n s).2.staging = s.staging := by
  unfold lockedRead
  (repeat' split) <;> simp [openLockedRead_staging]

theorem lockedWrite_staging (e : Episode) (tr : Translation) (bytes : List Byte) (s : State) :
    (lockedWrite e tr bytes s).2.staging = s.staging := by
  unfold lockedWrite
  (repeat' split) <;> simp

end Sys2Proof.Machine

namespace Sys2Proof

open Sys2Proof.Machine

/-- Settles O44: an episode begins on the lines quieted before. -/
theorem lockedAccessBeginsEpisode : Obligations.LockedAccessBeginsEpisode := by
  refine ⟨fun slot a x tr s r translates free => ?_, fun slot a x tr e s r translates episode named => ?_⟩
  · obtain rfl := slot_of_translate translates.2.2
    have locks : (quiesceSlot tr.slot r).locks = r.locks := by simp
    have tracker : (quiesceSlot tr.slot r).tracker = r.tracker := by simp
    have now : (quiesceSlot tr.slot r).now = r.now := by simp
    have quieting := quiesceSlot_changes tr.slot r
    cases aborts : slotIn r.locks.abortNext tr.slot with
    | true =>
      have inNone : lockedInNone tr (quiesceSlot tr.slot r) = (.abort, (quiesceSlot tr.slot r).setLocks
          { r.locks with abortNext := r.locks.abortNext &&& ~~~ slotBit tr.slot }) := by
        simp [lockedInNone, aborts]
      obtain ⟨t, run, answered, slots, answer⟩ := exec_translates translates ((serve_inNone free).trans inNone)
      obtain ⟨quieted, ⟨settings, marks, drains⟩, _⟩ := lockedEffects_of
        (u := (quiesceSlot tr.slot r).setLocks { r.locks with abortNext := r.locks.abortNext &&& ~~~ slotBit tr.slot }) rfl
        answer slots
      have frame : OnlyChanges [.bus, .staging, .locks] r t :=
        onlyChanges_trans (onlyChanges_trans quieting (d := [.locks]) (e := [.staging, .locks]) (by simp [onlyChanges_iff]) (by simp)
          (by simp)) answer (by simp) (by simp)
      exact ⟨t, run, quieted, settings, marks, slots, fun _ => ⟨frame, answered, drains, answer.1 .locks (by simp)⟩, by simp⟩
    | false =>
      have inNone : lockedInNone tr (quiesceSlot tr.slot r) = (.retry, beginEpisode tr (quiesceSlot tr.slot r)) := by
        simp [lockedInNone, aborts]
      obtain ⟨t, run, answered, slots, answer⟩ := exec_translates translates ((serve_inNone free).trans inNone)
      have writes : untransmitted tr.slot (quiesceSlot tr.slot r) = untransmitted tr.slot r :=
        untransmitted_of_quieted (quiesceSlot_quiets tr.slot r) (by simp) tr.slot
      have begun := beginEpisode_eq (quiesceSlot_quiets tr.slot r)
      have begins : OnlyChanges [.staging, .locks] r (episodeBegun tr (quiesceSlot tr.slot r)) :=
        onlyChanges_trans quieting (episodeBegun_changes tr _) (by simp) (by simp)
      have named : newEpisode tr (quiesceSlot tr.slot r) = newEpisode tr r := by simp [newEpisode]
      have begunLocks := episodeBegun_locks tr (quiesceSlot tr.slot r)
      have begunTracker := (episodeBegun_tracker tr (quiesceSlot tr.slot r)).trans tracker
      rw [named, locks] at begunLocks
      rw [writes] at begun
      by_cases waits : untransmitted tr.slot r = true ∨ lowestFreeTag r = none
      · have stays : beginEpisode tr (quiesceSlot tr.slot r) = episodeBegun tr (quiesceSlot tr.slot r) := by
          rw [begun]
          obtain running | noTag := waits
          · rw [if_pos running]
          · rw [episodeDrained_refused ((lowestFreeTag_congr begunTracker).trans noTag), ite_self]
        rw [stays] at answer
        obtain ⟨quieted, settings, marks, drains⟩ := episodeBegun_staging rfl (answer.1 .staging (by simp))
        refine ⟨t, run, quieted, settings, marks, slots, by simp, fun _ => ⟨answered,
          onlyChanges_trans begins answer (by simp) (by simp), drains,
          fun _ => ⟨Eq.trans (answer.1 .tracker (by simp)) begunTracker, Eq.trans (answer.1 .locks (by simp)) begunLocks⟩, ?_⟩⟩
        intro k drained tag
        simp [drained, tag] at waits
      · simp only [not_or, Bool.not_eq_true] at waits
        obtain ⟨drained, tagged⟩ := waits
        obtain ⟨k, tag⟩ := Option.ne_none_iff_exists'.mp tagged
        have asks : episodeDrained tr.slot (episodeBegun tr (quiesceSlot tr.slot r)) = _ :=
          episodeDrained_asks (congrArg LockUnit.episode begunLocks) rfl rfl ((lowestFreeTag_congr begunTracker).trans tag)
        rw [begun, if_neg (by simp [drained]), asks, begunTracker] at answer
        obtain ⟨quieted, settings, marks, drains⟩ := episodeBegun_staging rfl (answer.1 .staging (by simp))
        have frame : OnlyChanges [.bus, .staging, .locks, .tracker] r t :=
          onlyChanges_trans (onlyChanges_trans begins (d := [.tracker, .locks]) (e := [.staging, .locks, .tracker])
            (by simp [onlyChanges_iff]) (by simp) (by simp)) answer (by simp) (by simp)
        refine ⟨t, run, quieted, settings, marks, slots, by simp, fun _ => ⟨answered, frame, drains, ?_, fun k' _ tag' => ?_⟩⟩
        · simp [drained, tag]
        · obtain rfl : k = k' := Option.some.inj (tag.symm.trans tag')
          refine ⟨Eq.trans (answer.1 .tracker (by simp)) (by simp [newEpisode]), Eq.trans (answer.1 .locks (by simp)) ?_⟩
          simp [setEpisode, begunLocks, newEpisode]
  · obtain rfl := slot_of_translate translates.2.2
    have frame : ∀ {t}, OnlyChanges [.bus] (quiesceSlot tr.slot r) t → OnlyChanges [.bus, .staging] r t := fun answer =>
      onlyChanges_trans (quiesceSlot_changes tr.slot r) answer (by simp) (by simp)
    cases state : e.state with
    | requested =>
      obtain ⟨t, run, answered, slots, answer⟩ := exec_translates translates (serve_requested episode named state)
      exact ⟨t, run, lockedEffects_of rfl answer slots, fun _ => ⟨frame answer, answered⟩, by simp⟩
    | abandoning =>
      obtain ⟨t, run, answered, slots, answer⟩ := exec_translates translates (serve_abandoning episode named state)
      exact ⟨t, run, lockedEffects_of rfl answer slots, by simp, fun _ => ⟨frame answer, answered⟩⟩
    | opened =>
      cases x with
      | read n =>
        obtain ⟨t, run, _, slots, answer⟩ := exec_translates translates (serve_lockedRead episode named state)
        exact ⟨t, run, lockedEffects_of (lockedRead_staging ..) answer slots, by simp, by simp⟩
      | write bytes =>
        obtain ⟨t, run, _, slots, answer⟩ := exec_translates translates (serve_lockedWrite episode named state)
        exact ⟨t, run, lockedEffects_of (lockedWrite_staging ..) answer slots, by simp, by simp⟩

end Sys2Proof
end

section
/-! Locked accesses of an open episode, and the result of a LOCKED_READ. -/

namespace Sys2Proof.Machine

/-! ### Locked reads in OPEN (R104) -/

/-- The episode with no HeldRead (R104, R105). -/
def heldCleared (e : Episode) (s : State) : State := setEpisode (some { e with heldRead := none }) s

/-- What the card gets from the result of its HeldRead (R104 rows 3 and 4). -/
def heldAnswer (offset n : Nat) (ans : Answer) : HeldResult → Prop
  | .waiting => False
  | .data bytes => ans = .complete ((bytes.drop (offset % 4)).take n)
  | .error => ans = .abort

section

variable {e : Episode} {tr : Translation} {n : Nat} {s : State}

theorem lockedRead_serves {h : HeldRead} {ans : Answer} (standing : e.endPending = false) (held : e.heldRead = some h)
    (same : h.isFor tr n = true) (answer : heldAnswer tr.offset n ans h.result) :
    lockedRead e tr n s = (ans, heldCleared e s) := by
  cases result : h.result with
  | waiting => simp [heldAnswer, result] at answer
  | data bytes =>
    simp only [heldAnswer, result] at answer
    simp [lockedRead, standing, held, result, same, answer, heldCleared]
  | error =>
    simp only [heldAnswer, result] at answer
    simp [lockedRead, standing, held, result, same, answer, heldCleared]

theorem lockedRead_waits (waits : e.endPending = true ∨ (∃ h, e.heldRead = some h ∧ h.result = .waiting)) :
    lockedRead e tr n s = (.retry, s) := by
  obtain pending | ⟨h, held, waiting⟩ := waits
  · simp [lockedRead, pending]
  · simp [lockedRead, held, waiting]

theorem isFor_iff {h : HeldRead} :
    h.isFor tr n = true ↔ h.hostAddress = tr.hostAddress ∧ h.offset = tr.offset ∧ h.length = n := by
  simp [HeldRead.isFor, and_assoc]

theorem lockedRead_passes (standing : e.endPending = false) (past : HeldReadIsPast e tr n) :
    lockedRead e tr n s = (.retry, openLockedRead e tr n s) := by
  cases held : e.heldRead with
  | none => simp [lockedRead, standing, held]
  | some h =>
    obtain ⟨ended, other⟩ := past h held
    rw [← isFor_iff, Bool.not_eq_true] at other
    cases result : h.result with
    | waiting => exact absurd result ended
    | data bytes => simp [lockedRead, standing, held, result, other]
    | error => simp [lockedRead, standing, held, result, other]

/-- The request of a locked read (R104 row 7). -/
def lockedRequest (tr : Translation) (n : Nat) : Request :=
  { purpose := .lockedRead, hostAddress := tr.hostLine + BitVec.ofNat 48 (tr.offset / 4 * 4),
    length := (tr.offset + n + 3) / 4 * 4 - tr.offset / 4 * 4, slot := tr.slot }

/-- The HeldRead of a locked read under its tag (R104 row 7). -/
def newHeldRead (tr : Translation) (n : Nat) (tag : TagRef) : HeldRead :=
  { hostAddress := tr.hostAddress, offset := tr.offset, length := n, tag := tag, result := .waiting }

theorem openLockedRead_refused (named : e.slot = tr.slot) (refused : hasPosted tr.slot s = true ∨ lowestFreeTag s = none) :
    openLockedRead e tr n s = heldCleared e s := by
  rw [← named] at refused
  cases posted : hasPosted e.slot s with
  | true => simp [openLockedRead, posted, heldCleared]
  | false =>
    have noTag : lowestFreeTag (setEpisode (some { e with heldRead := none }) s) = none :=
      (lowestFreeTag_congr (by simp)).trans (refused.resolve_left (by simp [posted]))
    simp [openLockedRead, posted, allocateTag_none noTag, heldCleared]

theorem openLockedRead_fetches {k : TagIx} (named : e.slot = tr.slot) (clear : hasPosted tr.slot s = false)
    (tag : lowestFreeTag s = some k) :
    openLockedRead e tr n s =
      setEpisode (some { e with heldRead := some (newHeldRead tr n ⟨k, (s.tracker.tags.get k).generation⟩) })
        ((heldCleared e s).setTracker (allocated k (lockedRequest tr n) s.tracker)) := by
  have free : lowestFreeTag (setEpisode (some { e with heldRead := none }) s) = some k :=
    (lowestFreeTag_congr (by simp)).trans tag
  rw [← named] at clear
  simp [openLockedRead, clear, allocateTag_some free, heldCleared, lockedRequest, newHeldRead, directSpan, ← named]

end

/-! ### Locked writes in OPEN (R105) -/

theorem isWaiting_iff {e : Episode} :
    e.heldRead.any HeldRead.isWaiting = true ↔ ∃ h, e.heldRead = some h ∧ h.result = .waiting := by
  cases e.heldRead <;> simp [HeldRead.isWaiting]

/-- Once the slot's GATHERING line has been closed, a write waits for the closed-order list and for room in the posted-write
queue (R34, R105). -/
theorem writeMustWait_iff {slot : Slot} {r t : State} (closing : ClosedAppended (boundTo slot) r t) :
    WriteMustWait slot r ↔ t.staging.closedOrder ≠ [] ∨ unreservedRoom r = false := by
  obtain ⟨order, perm, appended⟩ := closing
  have closes : order ≠ [] ↔ ∃ j, (lineAt j r).isGathering = true ∧ (lineAt j r).ofSlot slot = true := by
    rw [ne_eq, List.eq_nil_iff_forall_not_mem, not_forall_not]
    exact exists_congr fun j => by
      simp only [perm.mem_iff, List.mem_filter, mem_allLines, true_and, Bool.and_eq_true, ofSlot_eq]
  have full : unreservedRoom r = false ↔ 16 ≤ r.tracker.posted.length ∨ endWaiting r = true := by
    rw [← Bool.not_eq_true, unreservedRoom_iff, not_and_or, Nat.not_lt, Bool.not_eq_false]
  simp only [WriteMustWait, appended, full, ← closes, ne_eq, List.append_eq_nil_iff]
  tauto

theorem writeMustWait_quiesced {e : Episode} {slot : Slot} {r : State} (episode : r.locks.episode = some e)
    (standing : e.endPending = false) :
    WriteMustWait slot r ↔
      (quiesceSlot slot r).staging.closedOrder ≠ [] ∨ postedRoom (quiesceSlot slot r) = false := by
  obtain ⟨_, closing, _⟩ := quiesceSlot_quiets slot r
  have room : postedRoom (quiesceSlot slot r) = unreservedRoom r := by
    simp [unreservedRoom, postedRoom, endWaiting, episode, standing]
  rw [writeMustWait_iff closing, room]

theorem lockedWrite_waits {e : Episode} {tr : Translation} {bytes : List Byte} {s : State}
    (waits : e.endPending = true ∨ (∃ h, e.heldRead = some h ∧ h.result = .waiting) ∨ s.tracker.writeHold = true ∨
      s.staging.closedOrder ≠ [] ∨ postedRoom s = false) :
    lockedWrite e tr bytes s = (.retry, s) := by
  rw [← isWaiting_iff] at waits
  unfold lockedWrite
  by_cases pending : e.endPending = true
  · exact if_pos pending
  · by_cases waiting : e.heldRead.any HeldRead.isWaiting = true
    · rw [if_neg pending, if_pos waiting]
    · by_cases hold : s.tracker.writeHold = true
      · rw [if_neg pending, if_neg waiting, if_pos hold]
      · have behind : s.staging.closedOrder ≠ [] ∨ postedRoom s = false :=
          ((waits.resolve_left pending).resolve_left waiting).resolve_left hold
        rw [if_neg pending, if_neg waiting, if_neg hold, if_pos behind]

theorem lockedWrite_posts {e : Episode} {tr : Translation} {bytes : List Byte} {s : State} (standing : e.endPending = false)
    (held : ∀ h, e.heldRead = some h → h.result ≠ .waiting) (hold : s.tracker.writeHold = false)
    (passes : ¬ (s.staging.closedOrder ≠ [] ∨ postedRoom s = false)) :
    lockedWrite e tr bytes s = (.complete [], postWrite e.slot tr.hostAddress bytes true (heldCleared e s)) := by
  have waiting : ¬ e.heldRead.any HeldRead.isWaiting = true := by
    rw [isWaiting_iff]
    rintro ⟨h, found, result⟩
    exact held h found result
  unfold lockedWrite
  rw [if_neg (by simp [standing]), if_neg waiting, if_neg (by simp [hold]), if_neg passes]
  rfl

theorem postWrite_tracker (slot : Slot) (h : HostAddr) (bytes : List Byte) (locked : Bool) (s : State) :
    (postWrite slot h bytes locked s).tracker =
      joined slot
        (.write (byteSpan (h.toNat % 64) bytes.length) (mergeBytes (freeBytes s.freeIndex) (h.toNat % 64) bytes)) h locked
        s.tracker := by
  simp [postWrite, joinPosted_tracker, joined]

/-! ### The result of a LOCKED_READ (R60, R108) -/

/-- What a result leaves in the HeldRead (R60). -/
def heldOutcome : FetchResult → HeldResult
  | .data bytes => .data bytes
  | .error _ => .error

section

variable {tag : TagRef} {result : FetchResult} {e : Episode} {s : State}

theorem heldResult_other (episode : s.locks.episode = some e) (other : ∀ h, e.heldRead = some h → h.tag ≠ tag) :
    heldResult tag result s = s := by
  unfold heldResult
  simp only [episode]
  cases held : e.heldRead with
  | none => rfl
  | some h => exact if_pos (other h held)

theorem heldResult_stands {h : HeldRead} (episode : s.locks.episode = some e) (held : e.heldRead = some h) (named : h.tag = tag)
    (state : e.state ≠ .abandoning) :
    heldResult tag result s = setEpisode (some { e with heldRead := some { h with result := heldOutcome result } }) s := by
  unfold heldResult
  simp only [episode, held, named, ne_eq, not_true_eq_false, if_false]
  cases phase : e.state <;> cases result <;> simp_all [heldOutcome]

theorem heldResult_abandons {h : HeldRead} (episode : s.locks.episode = some e) (held : e.heldRead = some h)
    (named : h.tag = tag) (state : e.state = .abandoning) :
    heldResult tag result s =
      if (e.endPending || e.beginTag.isSome) = true then heldCleared e s else postEnd { e with heldRead := none } s := by
  unfold heldResult
  simp only [episode, held, named, ne_eq, not_true_eq_false, if_false, state, heldCleared]

theorem heldResult_changes (episode : s.locks.episode = some e) (quiet : e.state = .abandoning → NoneWaitsForEpisode s) :
    OnlyChanges [.tracker, .locks] s (heldResult tag result s) := by
  by_cases other : ∀ h, e.heldRead = some h → h.tag ≠ tag
  · rw [heldResult_other episode other]
    simp [onlyChanges_iff]
  · push Not at other
    obtain ⟨h, held, named⟩ := other
    by_cases state : e.state = .abandoning
    · rw [heldResult_abandons episode held named state, postEnd_quiet (quiet state)]
      (repeat' split) <;> simp [onlyChanges_iff, heldCleared]
    · rw [heldResult_stands episode held named state]
      simp [onlyChanges_iff]

end

theorem finishRequest_lockedRead {i : TagIx} {q : Request} (result : FetchResult) {s : State} (purpose : q.purpose = .lockedRead) :
    finishRequest i q result s =
      heldResult ⟨i, (s.tracker.tags.get i).generation⟩ result
        (requestFault q ⟨i, (s.tracker.tags.get i).generation⟩ result (retireTag i s)) := by
  simp only [finishRequest, handOver, purpose]

/-! ### What a locked access of the open episode leaves -/

section

variable {slot : Slot} {a : CardAddr} {tr : Translation} {e : Episode} {ans : Answer} {s r u : State}

/-- A locked read in OPEN, by what the Lock Unit makes of it on the quieted lines (R43, R104). -/
theorem exec_openRead {n : Nat} (translates : Translates slot a (.read n) true tr s r) (episode : r.locks.episode = some e)
    (named : e.slot = slot) (state : e.state = .opened)
    (serves : lockedRead e tr (blockLength a (.read n)) (quiesceSlot slot r) = (ans, u)) :
    ∃ t, exec (.slotPresentation slot (.memory a) (.read n) true) s = .next t ∧ BusAnswered slot a (.read n) ans r t ∧
      LockedEffects slot r t ∧ OnlyChanges [.bus] u t := by
  obtain rfl := slot_of_translate translates.2.2
  obtain ⟨t, run, answered, slots, answer⟩ := exec_translates translates ((serve_lockedRead episode named state).trans serves)
  have staging := lockedRead_staging e tr (blockLength a (.read n)) (quiesceSlot tr.slot r)
  rw [serves] at staging
  exact ⟨t, run, answered, lockedEffects_of staging answer slots, answer⟩

/-- A locked write in OPEN, by what the Lock Unit makes of it on the quieted lines (R43, R105). -/
theorem exec_openWrite {bytes : List Byte} (translates : Translates slot a (.write bytes) true tr s r)
    (episode : r.locks.episode = some e) (named : e.slot = slot) (state : e.state = .opened)
    (serves : lockedWrite e tr (bytes.take (blockLength a (.write bytes))) (quiesceSlot slot r) = (ans, u)) :
    ∃ t, exec (.slotPresentation slot (.memory a) (.write bytes) true) s = .next t ∧
      BusAnswered slot a (.write bytes) ans r t ∧ LockedEffects slot r t ∧ OnlyChanges [.bus] u t := by
  obtain rfl := slot_of_translate translates.2.2
  obtain ⟨t, run, answered, slots, answer⟩ := exec_translates translates ((serve_lockedWrite episode named state).trans serves)
  have staging := lockedWrite_staging e tr (bytes.take (blockLength a (.write bytes))) (quiesceSlot tr.slot r)
  rw [serves] at staging
  exact ⟨t, run, answered, lockedEffects_of staging answer slots, answer⟩

/-- An access that only quiets the lines (R43). -/
theorem quiesced_changes {t : State} (answer : OnlyChanges [.bus] (quiesceSlot slot r) t) : OnlyChanges [.bus, .staging] r t :=
  onlyChanges_trans (quiesceSlot_changes slot r) answer (by simp) (by simp)

/-- An access that quiets the lines and clears the HeldRead (R43, R104). -/
theorem heldCleared_changes {t : State} (answer : OnlyChanges [.bus] (heldCleared e (quiesceSlot slot r)) t) :
    OnlyChanges [.bus, .staging, .locks] r t ∧ t.locks = { r.locks with episode := some { e with heldRead := none } } := by
  have clears : OnlyChanges [.locks] (quiesceSlot slot r) (heldCleared e (quiesceSlot slot r)) := by
    simp [onlyChanges_iff, heldCleared]
  have locks : (quiesceSlot slot r).locks = r.locks := by simp
  refine ⟨onlyChanges_trans (onlyChanges_trans (quiesceSlot_changes slot r) clears (e := [.staging, .locks]) (by simp) (by simp))
    answer (by simp) (by simp), Eq.trans (answer.1 .locks (by simp)) ?_⟩
  rw [heldCleared, setEpisode_locks, locks]

end

end Sys2Proof.Machine

namespace Sys2Proof

open Sys2Proof.Machine

/-- Settles O45: R104 and R105 by what stands in the HeldRead, on lines quieted before; R60 and R108 by its tag. -/
theorem openEpisodeServesLockedAccess : Obligations.OpenEpisodeServesLockedAccess := by
  refine ⟨?_, ?_, ?_, ?_, ?_⟩
  · intro slot a n tr e h ans s r translates episode named state standing held address offset length result
    have answer : heldAnswer tr.offset (blockLength a (.read n)) ans h.result := by
      obtain ⟨bytes, result, rfl⟩ | ⟨result, rfl⟩ := result <;> simp [heldAnswer, result]
    obtain ⟨t, run, answered, effects, answer⟩ := exec_openRead translates episode named state
      (lockedRead_serves standing held (isFor_iff.mpr ⟨address, offset, length⟩) answer)
    obtain ⟨frame, locks⟩ := heldCleared_changes answer
    exact ⟨t, run, frame, answered, effects, locks⟩
  · intro slot a n tr e s r translates episode named state waits
    obtain ⟨t, run, answered, effects, answer⟩ := exec_openRead translates episode named state (lockedRead_waits waits)
    exact ⟨t, run, quiesced_changes answer, answered, effects⟩
  · intro slot a n tr e s r translates episode named state standing past
    have own : e.slot = tr.slot := named.trans (slot_of_translate translates.2.2).symm
    have tracker : (quiesceSlot slot r).tracker = r.tracker := by simp
    have posted : hasPosted tr.slot (quiesceSlot slot r) = hasPosted slot r := by
      rw [← own, named, hasPosted, hasPosted, tracker]
    have tags : lowestFreeTag (quiesceSlot slot r) = lowestFreeTag r := lowestFreeTag_congr tracker
    have passes := lockedRead_passes (s := quiesceSlot slot r) standing past
    by_cases refused : hasPosted slot r = true ∨ lowestFreeTag r = none
    · rw [openLockedRead_refused own (by rwa [posted, tags])] at passes
      obtain ⟨t, run, answered, effects, answer⟩ := exec_openRead translates episode named state passes
      refine ⟨t, run, answered, effects, fun _ => heldCleared_changes answer, fun k clear tag => ?_⟩
      simp [clear, tag] at refused
    · simp only [not_or, Bool.not_eq_true] at refused
      obtain ⟨clear, tagged⟩ := refused
      obtain ⟨k, tag⟩ := Option.ne_none_iff_exists'.mp tagged
      rw [openLockedRead_fetches own (posted.trans clear) (tags.trans tag), tracker] at passes
      obtain ⟨t, run, answered, effects, answer⟩ := exec_openRead translates episode named state passes
      refine ⟨t, run, answered, effects, by simp [clear, tag], fun k' _ tag' => ?_⟩
      obtain rfl : k = k' := Option.some.inj (tag.symm.trans tag')
      refine ⟨onlyChanges_trans (onlyChanges_trans (quiesceSlot_changes slot r) (d := [.tracker, .locks])
        (e := [.staging, .locks, .tracker]) (by simp [onlyChanges_iff, heldCleared]) (by simp) (by simp)) answer (by simp)
          (by simp), Eq.trans (answer.1 .tracker (by simp)) ?_, Eq.trans (answer.1 .locks (by simp)) ?_⟩
      · simp [lockedRequest, slot_of_translate translates.2.2]
      · simp [heldCleared, setEpisode, newHeldRead]
  · rintro slot a bytes w tr e s r translates episode named state rfl
    have tracker : (quiesceSlot slot r).tracker = r.tracker := by simp
    by_cases waits : e.endPending = true ∨ (∃ h, e.heldRead = some h ∧ h.result = .waiting) ∨ r.tracker.writeHold = true ∨
        WriteMustWait slot r
    · have stays : e.endPending = true ∨ (∃ h, e.heldRead = some h ∧ h.result = .waiting) ∨
          (quiesceSlot slot r).tracker.writeHold = true ∨ (quiesceSlot slot r).staging.closedOrder ≠ [] ∨
            postedRoom (quiesceSlot slot r) = false := by
        rw [tracker]
        cases standing : e.endPending with
        | true => exact .inl rfl
        | false => simpa only [standing, writeMustWait_quiesced episode standing] using waits
      obtain ⟨t, run, answered, effects, answer⟩ := exec_openWrite translates episode named state (lockedWrite_waits stays)
      refine ⟨t, run, effects, fun _ => ⟨quiesced_changes answer, answered⟩, fun standing held hold passes => ?_⟩
      obtain pending | ⟨h, found, waiting⟩ | held | must := waits
      · simp [standing] at pending
      · exact absurd waiting (held h found)
      · simp [hold] at held
      · exact absurd must passes
    · simp only [not_or, Bool.not_eq_true, not_exists, not_and] at waits
      obtain ⟨standing, held, hold, passes⟩ := waits
      have posts := lockedWrite_posts (tr := tr) (bytes := bytes.take (blockLength a (.write bytes)))
        (s := quiesceSlot slot r) standing held (by rw [tracker]; exact hold)
        (by rwa [← writeMustWait_quiesced episode standing])
      obtain ⟨t, run, answered, effects, answer⟩ := exec_openWrite translates episode named state posts
      refine ⟨t, run, effects, fun waits => ?_, fun _ _ _ _ => ⟨?_, answered, Eq.trans (answer.1 .locks (by simp)) ?_,
        freeBytes (quiesceSlot slot r).freeIndex, Eq.trans (answer.1 .tracker (by simp)) ?_⟩⟩
      · obtain pending | ⟨h, found, waiting⟩ | holds | must := waits
        · simp [standing] at pending
        · exact absurd waiting (held h found)
        · simp [hold] at holds
        · exact absurd must passes
      · exact onlyChanges_trans (onlyChanges_trans (quiesceSlot_changes slot r) (d := [.tracker, .locks])
          (e := [.staging, .locks, .tracker]) (by simp [onlyChanges_iff, heldCleared]) (by simp) (by simp)) answer (by simp)
            (by simp)
      · simp [heldCleared, setEpisode]
      · rw [postWrite_tracker, named]
        simp [heldCleared, Translation.offset]
  · intro c i q d time result e s state purpose ends episode quiet
    have harmless := harmless_of_tagEnds ends
    obtain ⟨run, now⟩ := exec_tagEnds state ends
    have generation : ((retirementState c d s).tracker.tags.get i).generation = (s.tracker.tags.get i).generation := by simp
    rw [finishRequest_lockedRead result purpose, generation] at run
    have retired := onlyChanges_trans (retirementState_changes c d s) (retireTag_changes i _) (e := [.uplink, .time, .tracker])
      (by simp) (by simp)
    generalize hu : requestFault q ⟨i, (s.tracker.tags.get i).generation⟩ result (retireTag i (retirementState c d s)) = u
      at run
    have frame : OnlyChanges [.faults] (retireTag i (retirementState c d s)) u := hu ▸ requestFault_changes _ _ _ harmless
    have tracker : u.tracker = tagRetired i s.tracker := Eq.trans (frame.1 .tracker (by simp)) (by simp [retireTag_tracker])
    have locks : u.locks = s.locks := Eq.trans (frame.1 .locks (by simp)) (by simp)
    have command : u.command = s.command := Eq.trans (frame.1 .command (by simp)) (by simp)
    have running : u.locks.episode = some e := locks ▸ episode
    have still : e.state = .abandoning → NoneWaitsForEpisode u := fun state => by
      rw [NoneWaitsForEpisode, command]
      exact quiet state
    have handed : OnlyChanges [.tracker, .locks] u (heldResult ⟨i, (s.tracker.tags.get i).generation⟩ result u) :=
      heldResult_changes running still
    refine ⟨_, run, ?_, ?_, ?_, ?_, ?_, ?_, ?_⟩
    · exact onlyChanges_trans (onlyChanges_trans retired frame (e := [.uplink, .time, .tracker, .faults]) (by simp) (by simp))
        handed (by simp) (by simp)
    · exact Eq.trans (handed.1 .time (by simp)) (Eq.trans (frame.1 .time (by simp)) (by simpa using now))
    · exact Eq.trans (handed.1 .uplink (by simp))
        (Eq.trans (frame.1 .uplink (by simp)) ((by simp : _ = _).trans (retirementState_uplink c d s)))
    · exact requestFault_reports i (u := retireTag i (retirementState c d s)) (by simp [purpose]) harmless (by simp)
        (by rw [hu]; exact handed.1 .faults (by simp))
    · intro other
      rw [heldResult_other running other]
      exact ⟨tracker, locks⟩
    · intro h held tag phase
      rw [heldResult_stands running held tag phase]
      refine ⟨by simpa using tracker, ?_⟩
      rw [setEpisode_locks, locks]
      cases result <;> rfl
    · intro h held tag phase standing untagged
      rw [heldResult_abandons running held tag phase, if_neg (by simp [standing, untagged])]
      refine ⟨fun room => ?_, fun full => ?_⟩
      · obtain ⟨_, ended, posts⟩ := postEnd_room (e := { e with heldRead := none }) (still phase) (by rw [tracker]; exact room)
        rw [posts, ended, tracker, locks]
        exact ⟨rfl, rfl⟩
      · rw [postEnd_full (still phase) (by rw [tracker]; exact full)]
        exact ⟨by simpa using tracker, by rw [setEpisode_locks, locks]⟩

end Sys2Proof
end

section
/-! Unlocked accesses: what the closing of the slot's GATHERING line leaves as it is, and how an access is served. -/

namespace Sys2Proof.Machine

/-! ### Properties of lines and the closing -/

/-- A property that a line keeps when it is closed (R36). -/
def IgnoresClosing (p : Line → Bool) : Prop := ∀ b data v d, p (.closed b data v) = p (.gathering b data v d)

theorem ignoresClosing_shut {p : Line → Bool} (h : IgnoresClosing p) (q : Binding → Bool) (l : Line) : p (shut q l) = p l := by
  cases l with
  | gathering b data v d =>
    cases own : q b with
    | true => simpa [shut, own] using h b data v d
    | false => simp [shut, own]
  | _ => rfl

theorem findLine_congr {p q : Line → Bool} {s t : State} (h : ∀ j, p (lineAt j t) = q (lineAt j s)) :
    findLine p t = findLine q s := by
  have same : (fun j => p (lineAt j t)) = fun j => q (lineAt j s) := funext h
  rw [findLine, findLine, same]

theorem findLine_closeGathering {p : Line → Bool} (h : IgnoresClosing p) (slot : Slot) (s : State) :
    findLine p (closeGathering slot s) = findLine p s :=
  findLine_congr fun j => by rw [(closeGathering_shuts slot s).1 j, ignoresClosing_shut h]

theorem isFree_ignoresClosing : IgnoresClosing Line.isFree := fun _ _ _ _ => rfl

theorem ofSlotLine_ignoresClosing (slot : Slot) (h : HostAddr) : IgnoresClosing (Line.ofSlotLine slot h) := fun _ _ _ _ => rfl

/-! ### Closing and the other changes of lines -/

theorem closeLine_none {i : LineIx} {s : State} (h : (lineAt i s).isGathering = false) : closeLine s i = s := by
  unfold closeLine
  cases line : lineAt i s with
  | gathering => simp [line, Line.isGathering] at h
  | _ => rfl

theorem closeLine_gathering {i : LineIx} {b : Binding} {data : Table Byte 64} {v : BitVec 64} {d : Time} {s : State}
    (h : lineAt i s = .gathering b data v d) :
    closeLine s i =
      s.setStaging
        { s.staging with lines := s.staging.lines.set i (.closed b data v), closedOrder := s.staging.closedOrder ++ [i] } := by
  simp [closeLine, h]

theorem isGathering_given (p : Line → Bool) (l : Line) : (if p l then l.freed else l).isGathering = l.isGathering := by
  split
  · cases l <;> rfl
  · rfl

theorem closeLine_freeReads {p : Line → Bool} (h : IgnoresClosing p) (i : LineIx) (s : State) :
    closeLine (freeReads p s) i = freeReads p (closeLine s i) := by
  cases gathering : (lineAt i s).isGathering with
  | false => rw [closeLine_none gathering, closeLine_none (by rw [lineAt_freeReads, isGathering_given, gathering])]
  | true =>
    obtain ⟨b, data, v, d, line⟩ := isGathering_iff.mp gathering
    have kept : lineAt i (freeReads p s) = .gathering b data v d := by simp [lineAt_freeReads, line, Line.freed]
    have found : s.staging.lines.get i = .gathering b data v d := line
    have lines : (s.staging.lines.map fun l => if p l then l.freed else l).set i (.closed b data v) =
        (s.staging.lines.set i (.closed b data v)).map fun l => if p l then l.freed else l := by
      ext j
      by_cases same : i = j <;> simp [same, Line.freed]
    have order : ∀ j, p ((s.staging.lines.set i (.closed b data v)).get j) = p (s.staging.lines.get j) := fun j => by
      by_cases same : i = j
      · subst same
        rw [Table.get_set_self, found, h b data v d]
      · rw [Table.get_set_ne _ _ same]
    rw [closeLine_gathering line, closeLine_gathering kept]
    simp [freeReads, State.setStaging, lines, lineAt, order]

theorem foldl_closeLine_freeReads {p : Line → Bool} (h : IgnoresClosing p) (order : List LineIx) (s : State) :
    order.foldl closeLine (freeReads p s) = freeReads p (order.foldl closeLine s) := by
  induction order generalizing s with
  | nil => rfl
  | cons i rest ih => rw [List.foldl_cons, closeLine_freeReads h, ih, List.foldl_cons]

theorem gatheringWhere_congr {q : Binding → Bool} {s t : State}
    (h : ∀ j, ((lineAt j t).isGathering && (lineAt j t).binding.any q) = ((lineAt j s).isGathering && (lineAt j s).binding.any q)) :
    gatheringWhere q t = gatheringWhere q s :=
  List.filter_congr fun j _ => h j

/-- The freeing of read lines and the closing of the slot's GATHERING line meet no line in common (R36, R38). -/
theorem closeGathering_freeReads {p : Line → Bool} (h : IgnoresClosing p) (slot : Slot) (s : State) :
    closeGathering slot (freeReads p s) = freeReads p (closeGathering slot s) := by
  have same : gatheringWhere (fun b => b.slot == slot) (freeReads p s) = gatheringWhere (fun b => b.slot == slot) s :=
    gatheringWhere_congr fun j => by
      rw [lineAt_freeReads]
      split
      · cases lineAt j s <;> rfl
      · rfl
  rw [closeGathering, same, foldl_closeLine_freeReads h]
  rfl

theorem closeLine_setLine {i j : LineIx} (l : Line) (s : State) (other : i ≠ j) :
    closeLine (setLine i l s) j = setLine i l (closeLine s j) := by
  have kept : lineAt j (setLine i l s) = lineAt j s := by rw [lineAt_setLine, if_neg other]
  cases gathering : (lineAt j s).isGathering with
  | false => rw [closeLine_none gathering, closeLine_none (by rw [kept, gathering])]
  | true =>
    obtain ⟨b, data, v, d, line⟩ := isGathering_iff.mp gathering
    have lines : (s.staging.lines.set i l).set j (.closed b data v) = (s.staging.lines.set j (.closed b data v)).set i l := by
      ext k
      by_cases mine : i = k
      · subst mine
        simp [Ne.symm other]
      · simp [Table.get_set, mine]
    rw [closeLine_gathering line, closeLine_gathering (kept.trans line)]
    simp [setLine, State.setStaging, lines]

theorem foldl_closeLine_setLine {i : LineIx} (l : Line) (order : List LineIx) (s : State) (other : i ∉ order) :
    order.foldl closeLine (setLine i l s) = setLine i l (order.foldl closeLine s) := by
  induction order generalizing s with
  | nil => rfl
  | cons j rest ih =>
    rw [List.mem_cons, not_or] at other
    obtain ⟨head, tail⟩ := other
    rw [List.foldl_cons, closeLine_setLine l s head, ih _ tail, List.foldl_cons]

/-- A read line may be replaced before the closing or after it (R36). -/
theorem closeGathering_setLine {i : LineIx} {l : Line} (slot : Slot) {s : State} (before : (lineAt i s).isGathering = false)
    (after : l.isGathering = false) : closeGathering slot (setLine i l s) = setLine i l (closeGathering slot s) := by
  have same : gatheringWhere (fun b => b.slot == slot) (setLine i l s) = gatheringWhere (fun b => b.slot == slot) s :=
    gatheringWhere_congr fun j => by
      rw [lineAt_setLine]
      split
      · next mine => rw [← mine, before, after, Bool.false_and, Bool.false_and]
      · rfl
  rw [closeGathering, same, foldl_closeLine_setLine l _ s]
  · rfl
  · intro mem
    have gathers := (List.mem_filter.mp mem).2
    rw [before, Bool.false_and] at gathers
    exact Bool.false_ne_true gathers

theorem closeGathering_none {slot : Slot} {s : State}
    (h : ∀ j, (lineAt j s).isGathering = true → (lineAt j s).ofSlot slot = false) : closeGathering slot s = s := by
  have none : gatheringWhere (fun b => b.slot == slot) s = [] := by
    refine List.filter_eq_nil_iff.mpr fun j _ => ?_
    rw [Bool.and_eq_true]
    rintro ⟨gathers, own⟩
    have other := h j gathers
    rw [ofSlot_eq] at other
    exact Bool.false_ne_true (other.symm.trans own)
  rw [closeGathering, none]
  rfl

/-- A slot without untransmitted writes has no GATHERING line to close (R26, R39). -/
theorem closeGathering_of_transmitted {slot : Slot} {s : State} (h : untransmitted slot s = false) : closeGathering slot s = s := by
  refine closeGathering_none fun j gathers => ?_
  by_contra own
  rw [Bool.not_eq_false] at own
  have written : (lineAt j s).isWrite = true := by
    revert gathers
    cases lineAt j s <;> simp [Line.isGathering, Line.isWrite]
  have some : s.staging.lines.items.any (fun l => l.isWrite && l.ofSlot slot) = true :=
    any_lines.mpr ⟨j, by rw [written, own]; rfl⟩
  rw [untransmitted, some, Bool.true_or] at h
  exact Bool.noConfusion h

theorem closeGathering_again (slot : Slot) (s : State) :
    closeGathering slot (closeGathering slot s) = closeGathering slot s := by
  refine closeGathering_none fun j gathers => ?_
  rw [ofSlot_eq]
  rw [(closeGathering_shuts slot s).1 j] at gathers ⊢
  exact isGathering_shut gathers

theorem closeGathering_changes (slot : Slot) (s : State) : OnlyChanges [.staging] s (closeGathering slot s) := by
  simp [onlyChanges_iff]

/-- The slot's GATHERING line has been closed, and an access has changed no more of the Staging Unit (R26, R36). -/
theorem linesShut_of {slot : Slot} {r t : State} (staging : t.staging = (closeGathering slot r).staging) :
    LinesShut (boundTo slot) r t ∧ SettingsKept r t ∧ MarksKept r t ∧ t.staging.slotDrains = r.staging.slotDrains := by
  obtain ⟨buffering, readAhead, gatherIdle, slotDrains, globalDrain, mapBarrier⟩ := closeGathering_rest slot r
  have shuts := closeGathering_shuts slot r
  refine ⟨?_, ?_, ?_, ?_⟩
  · simpa only [LinesShut, ClosedAppended, lineAt, staging] using shuts
  · simp only [SettingsKept, staging, buffering, readAhead, gatherIdle, and_self]
  · simp only [MarksKept, staging, globalDrain, mapBarrier, and_self]
  · rw [staging, slotDrains]

/-! ### How an unlocked access is served -/

section

variable {tr : Translation} {s : State}

theorem servedDirect_buffered (mode : tr.mode = .buffered) (on : s.staging.buffering = true) : servedDirect tr s = false := by
  simp [servedDirect, mode, on]

theorem servedDirect_direct (h : tr.mode = .direct ∨ s.staging.buffering = false) : servedDirect tr s = true := by
  obtain h | h := h <;> simp [servedDirect, h]

theorem serve_bufferedRead (n : Nat) (mode : tr.mode = .buffered) (on : s.staging.buffering = true) :
    serve tr (.read n) false s = bufferedRead tr n (closeGathering tr.slot s) := by
  simp [serve, unlockedAccess, servedDirect_buffered mode on]

theorem serve_directRead (n : Nat) (h : tr.mode = .direct ∨ s.staging.buffering = false) :
    serve tr (.read n) false s = directRead tr n (closeGathering tr.slot s) := by
  simp [serve, unlockedAccess, servedDirect_direct h]

theorem serve_bufferedWrite (bytes : List Byte) (mode : tr.mode = .buffered) (on : s.staging.buffering = true) :
    serve tr (.write bytes) false s = bufferedWrite tr bytes s := by
  simp [serve, unlockedAccess, servedDirect_buffered mode on]

theorem serve_directWrite (bytes : List Byte) (h : tr.mode = .direct ∨ s.staging.buffering = false) :
    serve tr (.write bytes) false s = directWrite tr bytes s := by
  simp [serve, unlockedAccess, servedDirect_direct h]

end

end Sys2Proof.Machine
end

section
/-! An unlocked read that misses. -/

namespace Sys2Proof.Machine

/-! ### The lines of a read on a state whose GATHERING line has been closed -/

theorem validFor_ignoresClosing (direct : Bool) (slot : Slot) (h : HostAddr) (s : State) :
    IgnoresClosing (validFor direct slot h s) := fun _ _ _ _ => rfl

theorem fetchingBuffered_ignoresClosing (slot : Slot) (h : HostAddr) : IgnoresClosing (fetchingBuffered slot h) :=
  fun _ _ _ _ => rfl

theorem errorBuffered_ignoresClosing (slot : Slot) (h : HostAddr) : IgnoresClosing (errorBuffered slot h) :=
  fun _ _ _ _ => rfl

theorem directFor_ignoresClosing (slot : Slot) (h : HostAddr) : IgnoresClosing (directFor slot h) := fun _ _ _ _ => rfl

theorem directHit_ignoresClosing (tr : Translation) (n : Nat) (s : State) : IgnoresClosing (directHit tr n s) :=
  fun _ _ _ _ => rfl

theorem directFetching_ignoresClosing (tr : Translation) (n : Nat) : IgnoresClosing (directFetching tr n) :=
  fun _ _ _ _ => rfl

theorem errorFor_ignoresClosing (slot : Slot) (h : HostAddr) : IgnoresClosing (errorFor slot h) := fun _ _ _ _ => rfl

theorem validFor_congr {s t : State} (map : t.pageMap = s.pageMap) (direct : Bool) (slot : Slot) (h : HostAddr) :
    validFor direct slot h t = validFor direct slot h s := by
  funext l
  cases l <;> simp [validFor, current, map]

theorem directHit_congr {s t : State} (map : t.pageMap = s.pageMap) (tr : Translation) (n : Nat) :
    directHit tr n t = directHit tr n s := by
  funext l
  cases l <;> simp [directHit, validFor_congr map]

section

variable (tr : Translation) (n : Nat) (r : State)

theorem findLine_validFor_closed :
    findLine (validFor false tr.slot tr.hostLine (closeGathering tr.slot r)) (closeGathering tr.slot r) =
      findLine (validFor false tr.slot tr.hostLine r) r := by
  rw [validFor_congr (s := r) (by simp), findLine_closeGathering (validFor_ignoresClosing _ _ _ _)]

theorem findLine_directHit_closed :
    findLine (directHit tr n (closeGathering tr.slot r)) (closeGathering tr.slot r) = findLine (directHit tr n r) r := by
  rw [directHit_congr (s := r) (by simp), findLine_closeGathering (directHit_ignoresClosing _ _ _)]

end

theorem lineAt_closed {slot : Slot} {i : LineIx} {s : State} (h : (lineAt i s).isGathering = false) :
    lineAt i (closeGathering slot s) = lineAt i s := by
  rw [(closeGathering_shuts slot s).1 i]
  exact shut_of_not (by rw [h, Bool.false_and])

/-! ### The lines that a miss gives up -/

theorem freeReads_congr {p q : Line → Bool} {s : State} (h : ∀ j, p (lineAt j s) = q (lineAt j s)) :
    freeReads p s = freeReads q s := by
  have lines : (s.staging.lines.map fun l => if p l then l.freed else l) =
      s.staging.lines.map fun l => if q l then l.freed else l := by
    ext j
    have same : p (s.staging.lines.get j) = q (s.staging.lines.get j) := h j
    simp [same]
  simp [freeReads, State.setStaging, lines, h]

/-- A line reclaimed by itself, and then others, are lines given up together (R27, R38). -/
theorem freeReads_setLine_free {p q : Line → Bool} {i : LineIx} {s : State} (reclaimable : (lineAt i s).reclaimable = true)
    (only : ∀ j, q (lineAt j s) = true ↔ j = i) :
    freeReads p (setLine i .free s) = freeReads (fun l => p l || q l) s := by
  have freed : (lineAt i s).freed = .free := by
    revert reclaimable
    cases lineAt i s <;> simp [Line.reclaimable, Line.freed]
  have mine : q (lineAt i s) = true := (only i).mpr rfl
  have others : ∀ j, j ≠ i → q (lineAt j s) = false := fun j other =>
    Bool.eq_false_iff.mpr fun h => other ((only j).mp h)
  have lines : ((s.staging.lines.set i .free).map fun l => if p l then l.freed else l) =
      s.staging.lines.map fun l => if p l || q l then l.freed else l := by
    ext j
    by_cases same : i = j
    · subst same
      have found : q (s.staging.lines.get i) = true := mine
      have stays : Line.free.freed = .free := rfl
      have gone : (s.staging.lines.get i).freed = .free := freed
      simp [found, gone, stays]
    · have other : q (s.staging.lines.get j) = false := others j (Ne.symm same)
      simp [same, other]
  have order : (s.staging.lru.filter fun j => decide (j ≠ i)).filter (fun j => !p (lineAt j (setLine i .free s))) =
      s.staging.lru.filter fun j => !(p (lineAt j s) || q (lineAt j s)) := by
    rw [List.filter_filter]
    refine List.filter_congr fun j _ => ?_
    by_cases same : j = i
    · subst same
      simp [mine]
    · simp [same, others j same, lineAt_setLine, Ne.symm same]
  simp only [freeReads, setLine, State.setStaging, Line.reclaimable, lines, Bool.false_eq_true, if_false, List.append_nil] at order ⊢
  rw [order]

theorem givenUp_ignoresClosing (direct : Bool) (slot : Slot) (h : HostAddr) (r : State) :
    IgnoresClosing (givenUp direct slot h r) := by
  cases direct <;> exact fun _ _ _ _ => rfl

section

variable {tr : Translation} {n : Nat} {f : FetchSpan} {readStart : Option Nat} {r : State}

/-- A buffered read that misses (R27, R28). -/
theorem bufferedRead_misses (misses : Misses false tr n f readStart r) :
    bufferedRead tr n (closeGathering tr.slot r) =
      (.retry, readMiss tr f readStart (closeGathering tr.slot (gaveUp (givenUp false tr.slot tr.hostLine r) r))) := by
  obtain ⟨_, _, _, rfl, rfl, noFetch, noError, past, alone⟩ | ⟨direct, _⟩ := misses
  · have commutes := closeGathering_freeReads (directFor_ignoresClosing tr.slot tr.hostLine) tr.slot
    cases valid : findLine (validFor false tr.slot tr.hostLine r) r with
    | none =>
      have same : gaveUp (givenUp false tr.slot tr.hostLine r) r = freeReads (directFor tr.slot tr.hostLine) r :=
        freeReads_congr fun j => by simp [givenUp, findLine_none valid j]
      rw [same, commutes, bufferedRead, findLine_validFor_closed, valid,
        findLine_closeGathering (fetchingBuffered_ignoresClosing _ _), findLine_closeGathering (errorBuffered_ignoresClosing _ _),
        noFetch, noError]
      rfl
    | some i =>
      have found := findLine_some valid
      obtain ⟨b, g, fetched, c, line, _⟩ := validFor_iff.mp found
      have read : (lineAt i r).isGathering = false := by simp [line, Line.isGathering]
      have same : gaveUp (givenUp false tr.slot tr.hostLine r) r =
          freeReads (directFor tr.slot tr.hostLine) (setLine i .free r) :=
        (freeReads_setLine_free (by simp [line, Line.reclaimable])
          fun j => ⟨fun h => alone j i h found, fun h => h ▸ found⟩).symm
      rw [same, commutes, closeGathering_setLine tr.slot read rfl, bufferedRead, findLine_validFor_closed, valid]
      simp only [lineAt_closed read, line]
      rw [if_neg (Nat.not_le.mpr (past i b g fetched c line found))]
      rfl
  · cases direct

/-- A direct read that misses (R31). -/
theorem directRead_misses (misses : Misses true tr n f readStart r) :
    directRead tr n (closeGathering tr.slot r) =
      (.retry, readMiss tr f readStart (closeGathering tr.slot (gaveUp (givenUp true tr.slot tr.hostLine r) r))) := by
  obtain ⟨direct, _⟩ | ⟨_, _, rfl, rfl, noHit, noFetch, noError⟩ := misses
  · cases direct
  · have same : gaveUp (givenUp true tr.slot tr.hostLine r) r = freeReads (Line.ofSlotLine tr.slot tr.hostLine) r :=
      freeReads_congr fun j => by simp [givenUp]
    rw [same, closeGathering_freeReads (ofSlotLine_ignoresClosing _ _), directRead, findLine_directHit_closed, noHit,
      findLine_closeGathering (directFetching_ignoresClosing _ _), findLine_closeGathering (errorFor_ignoresClosing _ _),
      noFetch, noError]
    rfl

/-- An unlocked read that misses: the miss is on lines given up, with the slot's GATHERING line closed (R26, R27, R31). -/
theorem serve_misses {direct : Bool} (misses : Misses direct tr n f readStart r) :
    serve tr (.read n) false r =
      (.retry, readMiss tr f readStart (closeGathering tr.slot (gaveUp (givenUp direct tr.slot tr.hostLine r) r))) := by
  cases direct with
  | false =>
    obtain ⟨_, mode, on, _⟩ | ⟨direct, _⟩ := id misses
    · rw [serve_bufferedRead n mode on, bufferedRead_misses misses]
    · cases direct
  | true =>
    obtain ⟨direct, _⟩ | ⟨_, mode, _⟩ := id misses
    · cases direct
    · rw [serve_directRead n mode, directRead_misses misses]

end

theorem isWrite_given (p : Line → Bool) (l : Line) :
    (if p l then l.freed else l).isWrite = l.isWrite ∧
      (l.isWrite = true → (if p l then l.freed else l) = l) := by
  split
  · cases l <;> simp [Line.freed, Line.isWrite]
  · simp

theorem untransmitted_freeReads (p : Line → Bool) (slot : Slot) (s : State) :
    untransmitted slot (freeReads p s) = untransmitted slot s := by
  have line : ∀ j, ((lineAt j (freeReads p s)).isWrite && (lineAt j (freeReads p s)).ofSlot slot) =
      ((lineAt j s).isWrite && (lineAt j s).ofSlot slot) := by
    intro j
    obtain ⟨write, same⟩ := isWrite_given p (lineAt j s)
    rw [lineAt_freeReads, write]
    cases written : (lineAt j s).isWrite with
    | false => rfl
    | true => rw [same written]
  have lines : (freeReads p s).staging.lines.items.any (fun l => l.isWrite && l.ofSlot slot) =
      s.staging.lines.items.any (fun l => l.isWrite && l.ofSlot slot) := by
    rw [Bool.eq_iff_iff, any_lines, any_lines]
    simp only [line]
  have tracker : (freeReads p s).tracker = s.tracker := by simp
  simp only [untransmitted, hasPosted, lines, tracker]

/-! ### A miss (R25, R28) -/

section

variable {tr : Translation} {f : FetchSpan} {readStart : Option Nat} {u : State}

theorem startSlotDrain_closed {slot : Slot} (writes : untransmitted slot u = true) :
    startSlotDrain .miss slot (closeGathering slot u) =
      setDrains slot { u.staging.slotDrains.get slot with unowned := .running } (closeGathering slot u) := by
  have same : untransmitted slot (closeGathering slot u) = true := (untransmitted_closeGathering slot slot u).trans writes
  simp [startSlotDrain, closeGathering_again, same]

theorem readMiss_drains (writes : untransmitted tr.slot u = true) :
    readMiss tr f readStart (closeGathering tr.slot u) =
      setDrains tr.slot { u.staging.slotDrains.get tr.slot with unowned := .running } (closeGathering tr.slot u) := by
  rw [readMiss, if_pos ((untransmitted_closeGathering tr.slot tr.slot u).trans writes), startSlotDrain_closed writes]

theorem readMiss_refused (writes : untransmitted tr.slot u = false) (none : NoLineOrTag tr.slot u) :
    readMiss tr f readStart u = u := by
  rw [readMiss, if_neg (by simp [writes])]
  obtain noTag | ⟨quota, noOwn⟩ | ⟨quota, noFree, noOther⟩ := none
  · rw [noTag]
  · have room : makeQuota tr.slot u = none := by simp [makeQuota, Nat.not_lt.mpr quota, noOwn]
    rw [room]
    split <;> rfl
  · have room : makeQuota tr.slot u = some u := if_pos quota
    have taken : takeLine u = none := by simp [takeLine, noFree, noOther]
    simp only [room, taken]
    split <;> rfl

theorem takeLine_of_takesLine {slot : Slot} {i : LineIx} {v : State} (h : TakesLine slot i u v) :
    ∃ room, makeQuota slot u = some room ∧ takeLine room = some (i, v) := by
  obtain ⟨quota, free, rfl⟩ | ⟨quota, noFree, ⟨rest, order⟩, rfl⟩ | ⟨quota, j, own, rfl, free⟩ := h
  · exact ⟨v, if_pos quota, by simp [takeLine, free]⟩
  · exact ⟨u, if_pos quota, by simp [takeLine, noFree, order, reclaimed_eq]⟩
  · exact ⟨reclaimed j u, by simp [makeQuota, Nat.not_lt.mpr quota, own, reclaimed_eq], by simp [takeLine, free]⟩

theorem readMiss_fetches {i : LineIx} {k : TagIx} {v : State} (writes : untransmitted tr.slot u = false)
    (tag : lowestFreeTag u = some k) (takes : TakesLine tr.slot i u v) :
    readMiss tr f readStart u = bindFetch i tr.binding f readStart v := by
  obtain ⟨room, quota, taken⟩ := takeLine_of_takesLine takes
  rw [readMiss, if_neg (by simp [writes])]
  simp only [tag, quota, taken]

end

end Sys2Proof.Machine

namespace Sys2Proof

open Sys2Proof.Machine

/-- Settles O41: a miss waits for the slot's writes, or has no tag or no line, or binds a line. -/
theorem readMissFetchesLine : Obligations.ReadMissFetchesLine := by
  intro slot a n tr direct f readStart s r u translates misses hu
  obtain rfl := slot_of_translate translates.2.2
  have served := serve_misses misses
  rw [← hu] at served
  have given : u = freeReads (givenUp direct tr.slot tr.hostLine r) r := hu
  have writes : untransmitted tr.slot u = untransmitted tr.slot r := by rw [given, untransmitted_freeReads]
  have gives : OnlyChanges [.staging] r u := by simp [onlyChanges_iff, given]
  have tracker : u.tracker = r.tracker := gives.1 .tracker (by simp)
  refine ⟨fun waits => ?_, fun drained none => ?_, fun i k q v drained takes tag hq => ?_⟩
  · rw [readMiss_drains (writes.trans waits)] at served
    obtain ⟨t, run, answered, slots, answer⟩ := exec_translates translates served
    have staging : t.staging = _ := answer.1 .staging (by simp)
    obtain ⟨_, buffering, readAhead, gatherIdle, slotDrains, globalDrain, mapBarrier⟩ :=
      freeReads_rest (givenUp direct tr.slot tr.hostLine r) r
    rw [← given] at buffering readAhead gatherIdle slotDrains globalDrain mapBarrier
    refine ⟨t, run, ?_, answered, slots, ?_, ?_, ?_, fun y => ?_⟩
    · exact onlyChanges_trans (onlyChanges_trans gives (d := [.staging]) (e := [.staging]) (by simp [onlyChanges_iff]) (by simp)
        (by simp)) answer (by simp) (by simp)
    · have shuts := closeGathering_shuts tr.slot u
      simpa only [LinesShut, ClosedAppended, lineAt, staging, setDrains, State.setStaging_staging] using shuts
    · simp [SettingsKept, staging, setDrains, buffering, readAhead, gatherIdle]
    · simp [MarksKept, staging, setDrains, globalDrain, mapBarrier]
    · rw [staging]
      by_cases mine : y = tr.slot
      · subst mine
        simp [setDrains, slotDrains]
      · simp [setDrains, mine, Ne.symm mine, slotDrains]
  · rw [closeGathering_of_transmitted (writes.trans drained), readMiss_refused (writes.trans drained) none] at served
    obtain ⟨t, run, answered, slots, answer⟩ := exec_translates translates served
    exact ⟨t, run, onlyChanges_trans gives answer (by simp) (by simp), answered, slots, answer.1 .staging (by simp)⟩
  · have kept : v.tracker = r.tracker := fetch_tracker (.inl rfl) (given ▸ takes)
    have takesV : OnlyChanges [.staging] u v := by
      obtain ⟨_, rfl | ⟨j, _, rfl⟩⟩ := taken_path takes <;> simp [onlyChanges_iff]
    rw [closeGathering_of_transmitted (writes.trans drained),
      readMiss_fetches (writes.trans drained) ((lowestFreeTag_congr tracker).trans tag) takes,
      bindFetch_of_tag ((lowestFreeTag_congr kept).trans tag), kept] at served
    obtain ⟨t, run, answered, slots, answer⟩ := exec_translates translates served
    refine ⟨t, run, ?_, answered, slots, Eq.trans (answer.1 .tracker (by simp)) ?_, Eq.trans (answer.1 .staging (by simp)) ?_⟩
    · exact onlyChanges_trans (onlyChanges_trans (onlyChanges_trans gives takesV (e := [.staging]) (by simp) (by simp))
        (d := [.staging, .tracker]) (e := [.staging, .tracker]) (by simp [onlyChanges_iff]) (by simp) (by simp)) answer (by simp)
          (by simp)
    · simp [hq, Translation.binding]
    · simp [setLine, Line.reclaimable, Translation.binding]

end Sys2Proof
end

section
/-! An unlocked read that a line serves. -/

namespace Sys2Proof.Machine

/-! ### Read-ahead (R30) -/

section

variable {b : Binding} {next : Nat} {s : State}

theorem readAheadAllowed_iff :
    readAheadAllowed b next s = true ↔
      s.staging.readAhead = true ∧ 32 ≤ next ∧ b.hostLine.toNat % 16384 ≠ 16320 ∧ readLineCount b.slot s < 2 ∧
        untransmitted b.slot s = false ∧
        ¬ ∃ l, (lineAt l s).isRead = true ∧ (lineAt l s).ofSlotLine b.slot (b.hostLine + 64) = true ∧
          (lineAt l s).isStale = false := by
  have alone : s.staging.lines.items.any (fun l => l.isRead && !l.isStale && l.ofSlotLine b.slot (b.hostLine + 64)) = true ↔
      ∃ l, (lineAt l s).isRead = true ∧ (lineAt l s).ofSlotLine b.slot (b.hostLine + 64) = true ∧
        (lineAt l s).isStale = false := by
    rw [any_lines]
    exact exists_congr fun l => by
      rw [Bool.and_eq_true, Bool.and_eq_true, Bool.not_eq_true', and_assoc, and_comm (a := (lineAt l s).isStale = false)]
  rw [← alone]
  simp [readAheadAllowed, and_assoc]

theorem noReadAhead_iff :
    NoReadAhead b.slot b.hostLine next s ↔
      ¬ readAheadAllowed b next s = true ∨ findLine Line.isFree s = none ∨ lowestFreeTag s = none := by
  rw [readAheadAllowed_iff, NoReadAhead]
  simp only [not_and_or, not_not, Nat.not_le, Nat.not_lt, ne_eq, Bool.not_eq_true, Bool.not_eq_false]
  refine iff_of_eq ?_
  ac_rfl

theorem readAhead_refused (h : NoReadAhead b.slot b.hostLine next s) : readAhead b next s = s := by
  rw [noReadAhead_iff] at h
  unfold readAhead
  by_cases allowed : readAheadAllowed b next s = true
  · rw [if_pos allowed]
    obtain noLine | noTag := h.resolve_left (not_not_intro allowed)
    · rw [noLine]
    · rw [noTag]
      split
      · next found => cases found
      · rfl
  · rw [if_neg allowed]

theorem readAhead_fetches {j : LineIx} {k : TagIx} (h : ¬ NoReadAhead b.slot b.hostLine next s)
    (free : findLine Line.isFree s = some j) (tag : lowestFreeTag s = some k) :
    readAhead b next s = bindFetch j { b with hostLine := b.hostLine + 64 } wholeSpan none s := by
  have allowed : readAheadAllowed b next s = true := by
    by_contra refused
    exact h (noReadAhead_iff.mpr (.inl refused))
  rw [readAhead, if_pos allowed, free, tag]

/-- The closing of the slot's GATHERING line decides nothing about read-ahead: a slot that has one has untransmitted writes
(R26, R30). -/
theorem readAhead_closed :
    (NoReadAhead b.slot b.hostLine next s → readAhead b next (closeGathering b.slot s) = closeGathering b.slot s) ∧
      (¬ NoReadAhead b.slot b.hostLine next s → closeGathering b.slot s = s) := by
  cases writes : untransmitted b.slot s with
  | false =>
    rw [closeGathering_of_transmitted writes]
    exact ⟨readAhead_refused, fun _ => rfl⟩
  | true =>
    have blocked : ∀ u, untransmitted b.slot u = true → NoReadAhead b.slot b.hostLine next u := fun u h =>
      .inr (.inr (.inr (.inr (.inr (.inr (.inl h))))))
    exact ⟨fun _ => readAhead_refused (blocked _ ((untransmitted_closeGathering b.slot b.slot s).trans writes)),
      fun h => absurd (blocked s writes) h⟩

end

/-! ### A line answers a read -/

section

variable {tr : Translation} {n : Nat} {i : LineIx} {r : State}

/-- A buffered read at or past the ConsumePointer of its VALID line (R27 row 1, R29). -/
theorem bufferedRead_hits {b : Binding} {f : FetchSpan} {fetched : List Byte} {c : Nat}
    (found : findLine (validFor false tr.slot tr.hostLine r) r = some i) (line : lineAt i r = .valid b f fetched c)
    (reached : c ≤ tr.offset) :
    bufferedRead tr n (closeGathering tr.slot r) =
      (.complete ((fetched.drop (tr.offset - f.start)).take n),
        readAhead b (tr.offset + n)
          (closeGathering tr.slot
            (setLine i (if tr.offset + n = 64 then .free else .valid b f fetched (tr.offset + n)) r))) := by
  have read : (lineAt i r).isGathering = false := by simp [line, Line.isGathering]
  have after : (if tr.offset + n = 64 then Line.free else .valid b f fetched (tr.offset + n)).isGathering = false := by
    split <;> rfl
  rw [closeGathering_setLine tr.slot read after, bufferedRead, findLine_validFor_closed, found]
  simp only [lineAt_closed read, line]
  rw [if_pos reached, consumeLine]
  by_cases last : tr.offset + n = 64
  · simp only [if_pos last]
  · simp only [if_neg last]

/-- A line answers the read and is given up (R27 row 4, R31 rows 1 and 3). -/
theorem serve_lineAnswers {ans : Answer} (h : LineAnswers tr n i ans r) :
    serve tr (.read n) false r = (ans, setLine i .free (closeGathering tr.slot r)) ∧ (lineAt i r).isGathering = false := by
  obtain ⟨mode, hit, b, f, fetched, c, line, rfl⟩ | ⟨mode, on, noValid, noFetch, error, rfl⟩ |
    ⟨mode, noHit, noFetch, error, rfl⟩ := h
  · have read : (lineAt i r).isGathering = false := by simp [line, Line.isGathering]
    refine ⟨?_, read⟩
    rw [serve_directRead n mode, directRead, findLine_directHit_closed, hit]
    simp only [lineAt_closed read, line]
  · have read : (lineAt i r).isGathering = false := by
      have found := findLine_some error
      revert found
      cases lineAt i r <;> simp [errorBuffered, Line.isGathering]
    refine ⟨?_, read⟩
    rw [serve_bufferedRead n mode on, bufferedRead, findLine_validFor_closed, noValid,
      findLine_closeGathering (fetchingBuffered_ignoresClosing _ _), findLine_closeGathering (errorBuffered_ignoresClosing _ _),
      noFetch, error]
    rfl
  · have read : (lineAt i r).isGathering = false := by
      have found := findLine_some error
      revert found
      cases lineAt i r <;> simp [errorFor, Line.isGathering]
    refine ⟨?_, read⟩
    rw [serve_directRead n mode, directRead, findLine_directHit_closed, noHit,
      findLine_closeGathering (directFetching_ignoresClosing _ _), findLine_closeGathering (errorFor_ignoresClosing _ _),
      noFetch, error]
    rfl

/-- The read waits for the line that is being fetched for it (R27 row 3, R31 row 2). -/
theorem serve_awaitsFetch (h : AwaitsFetch tr n r) : serve tr (.read n) false r = (.retry, closeGathering tr.slot r) := by
  obtain ⟨mode, on, noValid, fetching⟩ | ⟨mode, noHit, fetching⟩ := h
  · obtain ⟨j, fetches⟩ := Option.ne_none_iff_exists'.mp fetching
    rw [serve_bufferedRead n mode on, bufferedRead, findLine_validFor_closed, noValid,
      findLine_closeGathering (fetchingBuffered_ignoresClosing _ _), fetches]
    rfl
  · obtain ⟨j, fetches⟩ := Option.ne_none_iff_exists'.mp fetching
    rw [serve_directRead n mode, directRead, findLine_directHit_closed, noHit,
      findLine_closeGathering (directFetching_ignoresClosing _ _), fetches]
    rfl

end

end Sys2Proof.Machine

namespace Sys2Proof

open Sys2Proof.Machine

/-- Settles O42: a hit, by whether read-ahead follows; a line that answers once; a line still being fetched. -/
theorem readHitConsumesLine : Obligations.ReadHitConsumesLine := by
  refine ⟨?_, ?_, ?_⟩
  · intro slot a n c tr i b f fetched s r u translates mode on found line reached hu
    obtain rfl := slot_of_translate translates.2.2
    obtain ⟨_, _, _, _, same, _, slot, host, _⟩ := validFor_iff.mp (findLine_some found)
    rw [line] at same
    cases same
    have served := (serve_bufferedRead _ mode on).trans (bufferedRead_hits (n := blockLength a (.read n)) found line reached)
    rw [← hu] at served
    obtain ⟨t, run, answered, slots, answer⟩ := exec_translates translates served
    have consumes : OnlyChanges [.staging] r u := by simp [hu, onlyChanges_iff]
    have tracker : u.tracker = r.tracker := consumes.1 .tracker (by simp)
    have drains : SettingsKept r u ∧ MarksKept r u ∧ u.staging.slotDrains = r.staging.slotDrains := by
      simp [hu, setLine, SettingsKept, MarksKept]
    obtain ⟨closes, stands⟩ := readAhead_closed (b := b) (next := tr.offset + blockLength a (.read n)) (s := u)
    rw [slot, host] at closes stands
    refine ⟨t, run, answered, slots, fun refused => ?_, fun j k allowed free tag => ?_⟩
    · rw [closes refused] at answer
      obtain ⟨shuts, settings, marks, kept⟩ := linesShut_of (answer.1 .staging (by simp))
      refine ⟨onlyChanges_trans (onlyChanges_trans consumes (closeGathering_changes tr.slot u) (e := [.staging]) (by simp) (by simp))
        answer (by simp) (by simp), shuts, ?_⟩
      obtain ⟨settings', marks', kept'⟩ := drains
      simp only [DrainsKept, SettingsKept, MarksKept] at settings marks settings' marks' ⊢
      simp [settings, marks, kept, settings', marks', kept']
    · rw [stands allowed, readAhead_fetches (by rwa [slot, host]) free tag, bindFetch_of_tag tag, tracker] at answer
      refine ⟨?_, Eq.trans (answer.1 .tracker (by simp)) ?_, Eq.trans (answer.1 .staging (by simp)) ?_⟩
      · exact onlyChanges_trans (onlyChanges_trans consumes (d := [.staging, .tracker]) (e := [.staging, .tracker])
          (by simp [onlyChanges_iff]) (by simp) (by simp)) answer (by simp) (by simp)
      · simp [wholeSpan, slot, host]
      · simp [setLine, Line.reclaimable, wholeSpan, host]
  · intro slot a n tr i ans s r translates answers
    obtain rfl := slot_of_translate translates.2.2
    obtain ⟨served, read⟩ := serve_lineAnswers answers
    obtain ⟨t, run, answered, slots, answer⟩ := exec_translates translates served
    have staging : t.staging = (setLine i .free (closeGathering tr.slot r)).staging := answer.1 .staging (by simp)
    obtain ⟨⟨lines, order, lru⟩, settings, marks, drains⟩ := linesShut_of (slot := tr.slot) (r := r) (t := closeGathering tr.slot r) rfl
    have lineIs : ∀ j, lineAt j t = if i = j then .free else lineAt j (closeGathering tr.slot r) := fun j => by
      rw [lineAt, staging]
      exact lineAt_setLine i j .free _
    refine ⟨t, run, ?_, answered, slots, ?_, ?_, ?_, ?_, ?_, fun j other => ?_, ?_⟩
    · exact onlyChanges_trans (onlyChanges_trans (closeGathering_changes tr.slot r) (d := [.staging]) (e := [.staging])
        (by simp [onlyChanges_iff]) (by simp) (by simp)) answer (by simp) (by simp)
    · simpa only [SettingsKept, staging, setLine, State.setStaging_staging] using settings
    · simpa only [MarksKept, staging, setLine, State.setStaging_staging] using marks
    · simpa only [staging, setLine, State.setStaging_staging] using drains
    · simpa only [ClosedAppended, staging, setLine, State.setStaging_staging] using order
    · rw [lineIs, if_pos rfl]
    · rw [lineIs, if_neg (Ne.symm other), lines]
    · simp [staging, setLine, Line.reclaimable, lru]
  · intro slot a n tr s r translates awaits
    obtain rfl := slot_of_translate translates.2.2
    obtain ⟨t, run, answered, slots, answer⟩ := exec_translates translates (serve_awaitsFetch awaits)
    obtain ⟨shuts, settings, marks, drains⟩ := linesShut_of (answer.1 .staging (by simp))
    exact ⟨t, run, onlyChanges_trans (closeGathering_changes tr.slot r) answer (by simp) (by simp), answered, slots, settings,
      marks, drains, shuts⟩

end Sys2Proof
end

section
/-! Unlocked writes. -/

namespace Sys2Proof.Machine

theorem findLine_isSome_iff {p : Line → Bool} {s : State} : (findLine p s).isSome = true ↔ ∃ j, p (lineAt j s) = true := by
  cases found : findLine p s with
  | none => simp [findLine_none found]
  | some i => exact ⟨fun _ => ⟨i, findLine_some found⟩, fun _ => rfl⟩

theorem drainsKept_of {s t : State} (buffering : t.staging.buffering = s.staging.buffering)
    (readAhead : t.staging.readAhead = s.staging.readAhead) (gatherIdle : t.staging.gatherIdle = s.staging.gatherIdle)
    (slotDrains : t.staging.slotDrains = s.staging.slotDrains) (globalDrain : t.staging.globalDrain = s.staging.globalDrain)
    (mapBarrier : t.staging.mapBarrier = s.staging.mapBarrier) : DrainsKept s t :=
  ⟨⟨buffering, readAhead, gatherIdle⟩, ⟨globalDrain, mapBarrier⟩, slotDrains⟩

theorem drainsKept_trans {s t u : State} (first : DrainsKept s t) (second : DrainsKept t u) : DrainsKept s u := by
  obtain ⟨⟨buffering, readAhead, gatherIdle⟩, ⟨globalDrain, mapBarrier⟩, slotDrains⟩ := first
  obtain ⟨⟨buffering', readAhead', gatherIdle'⟩, ⟨globalDrain', mapBarrier'⟩, slotDrains'⟩ := second
  exact drainsKept_of (buffering'.trans buffering) (readAhead'.trans readAhead) (gatherIdle'.trans gatherIdle)
    (slotDrains'.trans slotDrains) (globalDrain'.trans globalDrain) (mapBarrier'.trans mapBarrier)

theorem freeReads_keepsDrains (p : Line → Bool) (s : State) : DrainsKept s (freeReads p s) := by
  obtain ⟨_, buffering, readAhead, gatherIdle, slotDrains, globalDrain, mapBarrier⟩ := freeReads_rest p s
  exact drainsKept_of buffering readAhead gatherIdle slotDrains globalDrain mapBarrier

theorem closeGathering_keepsDrains (slot : Slot) (s : State) : DrainsKept s (closeGathering slot s) := by
  obtain ⟨buffering, readAhead, gatherIdle, slotDrains, globalDrain, mapBarrier⟩ := closeGathering_rest slot s
  exact drainsKept_of buffering readAhead gatherIdle slotDrains globalDrain mapBarrier

theorem drainsKept_congr {s t u : State} (staging : u.staging = t.staging) (h : DrainsKept s t) : DrainsKept s u := by
  simpa only [DrainsKept, SettingsKept, MarksKept, staging] using h

/-! ### A merge into a GATHERING line (R33 step 3) -/

section

variable {i : LineIx} {b : Binding} {data : Table Byte 64} {v : BitVec 64} {d : Time} {s : State}

theorem mergeInto_open {offset : Nat} {bytes : List Byte} (line : lineAt i s = .gathering b data v d)
    (partly : v ||| byteSpan offset bytes.length ≠ BitVec.allOnes 64) :
    mergeInto i offset bytes s =
      setLine i
        (.gathering b (mergeBytes data offset bytes) (v ||| byteSpan offset bytes.length) (s.now + s.staging.gatherIdle)) s := by
  simp only [mergeInto, line, if_neg partly]

theorem mergeInto_full {offset : Nat} {bytes : List Byte} (line : lineAt i s = .gathering b data v d)
    (full : v ||| byteSpan offset bytes.length = BitVec.allOnes 64) :
    mergeInto i offset bytes s =
      closeLine
        (setLine i (.gathering b (mergeBytes data offset bytes) (BitVec.allOnes 64) (s.now + s.staging.gatherIdle)) s) i := by
  simp only [mergeInto, line, full, if_true]

/-- What a merge does to the Staging Unit (R33 step 3, R36). -/
theorem mergeInto_merges (offset : Nat) (bytes : List Byte) (line : lineAt i s = .gathering b data v d) :
    DrainsKept s (mergeInto i offset bytes s) ∧
      (mergeInto i offset bytes s).staging.lru = s.staging.lru.filter (· ≠ i) ∧
      (∀ j, j ≠ i → lineAt j (mergeInto i offset bytes s) = lineAt j s) ∧
      (v ||| byteSpan offset bytes.length ≠ BitVec.allOnes 64 →
        lineAt i (mergeInto i offset bytes s) =
          .gathering b (mergeBytes data offset bytes) (v ||| byteSpan offset bytes.length) (s.now + s.staging.gatherIdle) ∧
        (mergeInto i offset bytes s).staging.closedOrder = s.staging.closedOrder) ∧
      (v ||| byteSpan offset bytes.length = BitVec.allOnes 64 →
        lineAt i (mergeInto i offset bytes s) = .closed b (mergeBytes data offset bytes) (BitVec.allOnes 64) ∧
        (mergeInto i offset bytes s).staging.closedOrder = s.staging.closedOrder ++ [i]) := by
  by_cases full : v ||| byteSpan offset bytes.length = BitVec.allOnes 64
  · rw [mergeInto_full line full, closeLine_gathering (lineAt_setLine i i _ s ▸ if_pos rfl)]
    refine ⟨drainsKept_of rfl rfl rfl rfl rfl rfl, ?_, fun j other => ?_, fun partly => absurd full partly, fun _ => ⟨?_, rfl⟩⟩
    · simp [setLine, Line.reclaimable]
    · simp [lineAt, setLine, Ne.symm other]
    · simp [lineAt, setLine]
  · rw [mergeInto_open line full]
    refine ⟨drainsKept_of rfl rfl rfl rfl rfl rfl, ?_, fun j other => ?_, fun _ => ⟨?_, rfl⟩, fun whole => absurd whole full⟩
    · simp [setLine, Line.reclaimable]
    · rw [lineAt_setLine, if_neg (Ne.symm other)]
    · rw [lineAt_setLine, if_pos rfl]

end

/-! ### The lines of a buffered write (R33) -/

theorem gatheringFor_iff {slot : Slot} {h : HostAddr} {s : State} {l : Line} :
    gatheringFor slot h s l = true ↔
      ∃ b data v d, l = .gathering b data v d ∧ b.slot = slot ∧ b.hostLine = h ∧ current b s = true := by
  cases l <;> simp [gatheringFor, and_assoc]

theorem findLine_gatheringFor_freed (slot : Slot) (h : HostAddr) (p : Line → Bool) (s : State) :
    findLine (gatheringFor slot h (freeReads p s)) (freeReads p s) = findLine (gatheringFor slot h s) s :=
  findLine_congr fun j => by
    have blind : ∀ l, gatheringFor slot h (freeReads p s) l = gatheringFor slot h s l := fun l => by
      cases l <;> simp [gatheringFor, current]
    rw [lineAt_freeReads, blind]
    split
    · cases lineAt j s <;> rfl
    · rfl

theorem given_read {slot : Slot} {h : HostAddr} {l : Line} (read : l.isRead = true) :
    (if l.ofSlotLine slot h then l.freed else l) = quieted (boundToLine slot h) l := by
  rw [ofSlotLine_eq]
  cases l with
  | fetching b f readStart stale => cases own : boundToLine slot h b <;> simp [Line.binding, Line.freed, quieted, own]
  | valid b => cases own : boundToLine slot h b <;> simp [Line.binding, Line.freed, quieted, own]
  | error b => cases own : boundToLine slot h b <;> simp [Line.binding, Line.freed, quieted, own]
  | free => simp [Line.isRead] at read
  | gathering => simp [Line.isRead] at read
  | closed => simp [Line.isRead] at read

theorem given_other {p : Line → Bool} {l : Line} (other : l.isRead = false) : (if p l then l.freed else l) = l := by
  split
  · cases l <;> simp_all [Line.isRead, Line.freed]
  · rfl

/-- The CLOSED lines, once the slot's GATHERING line is closed, are its write lines (R33 step 4). -/
theorem closedFor_shut (slot : Slot) (h : HostAddr) (l : Line) :
    closedFor slot h (shut (boundTo slot) l) = (l.isWrite && l.ofSlotLine slot h) := by
  cases l with
  | gathering b data v d =>
    cases own : b.slot == slot <;>
      simp [shut, boundTo, own, closedFor, Line.isWrite, Line.ofSlotLine, Line.binding]
  | _ => rfl

theorem writeLineStands_iff {slot : Slot} {h : HostAddr} {u : State} :
    WriteLineStands slot h u ↔ (findLine (closedFor slot h) (closeGathering slot u)).isSome = true := by
  rw [findLine_isSome_iff, WriteLineStands]
  refine exists_congr fun j => ?_
  rw [(closeGathering_shuts slot u).1 j, closedFor_shut, Bool.and_eq_true]

section

variable {tr : Translation} {bytes : List Byte} {u : State}

theorem bufferedWrite_held {r : State} (hold : r.tracker.writeHold = true) : bufferedWrite tr bytes r = (.retry, r) := by
  simp [bufferedWrite, hold]

theorem bufferedWrite_merges {i : LineIx} {r : State} (hold : r.tracker.writeHold = false)
    (found : findLine (gatheringFor tr.slot tr.hostLine r) r = some i) :
    bufferedWrite tr bytes r =
      (.complete [], mergeInto i tr.offset bytes (freeReads (Line.ofSlotLine tr.slot tr.hostLine) r)) := by
  simp only [bufferedWrite, hold, Bool.false_eq_true, if_false, findLine_gatheringFor_freed, found]

theorem bufferedWrite_gathers {r : State} (hold : r.tracker.writeHold = false)
    (none : findLine (gatheringFor tr.slot tr.hostLine r) r = none) :
    bufferedWrite tr bytes r = gatherAnew tr bytes (gaveUp (Line.ofSlotLine tr.slot tr.hostLine) r) := by
  simp only [bufferedWrite, hold, Bool.false_eq_true, if_false, findLine_gatheringFor_freed, none]
  rfl

theorem takesWriteLine_of (some : ¬ NoWriteLine u) : ∃ i, TakesWriteLine i u := by
  cases free : findLine Line.isFree u with
  | some i => exact ⟨i, .inl free⟩
  | none =>
    cases others : u.staging.lru with
    | nil => exact absurd ⟨free, others⟩ some
    | cons i rest => exact ⟨i, .inr ⟨free, rest, others⟩⟩

theorem takesWriteLine_unique {i j : LineIx} (first : TakesWriteLine i u) (second : TakesWriteLine j u) : i = j := by
  obtain free | ⟨noFree, rest, order⟩ := first <;> obtain free' | ⟨noFree', rest', order'⟩ := second
  · exact Option.some.inj (free.symm.trans free')
  · cases free.symm.trans noFree'
  · cases free'.symm.trans noFree
  · cases order.symm.trans order'
    rfl

theorem takeLine_free {i : LineIx} (free : findLine Line.isFree u = some i) (slot : Slot) :
    takeLine (closeGathering slot u) = some (i, closeGathering slot u) := by
  simp [takeLine, findLine_closeGathering isFree_ignoresClosing, free]

theorem takeLine_reclaims {i : LineIx} {rest : List LineIx} (noFree : findLine Line.isFree u = none)
    (order : u.staging.lru = i :: rest) (slot : Slot) :
    takeLine (closeGathering slot u) = some (i, setLine i .free (closeGathering slot u)) := by
  obtain ⟨_, _, lru⟩ := closeGathering_shuts slot u
  simp [takeLine, findLine_closeGathering isFree_ignoresClosing, noFree, lru.trans order]

theorem takeLine_nothing (noFree : findLine Line.isFree u = none) (noOther : u.staging.lru = []) (slot : Slot) :
    takeLine (closeGathering slot u) = none := by
  obtain ⟨_, _, lru⟩ := closeGathering_shuts slot u
  simp [takeLine, findLine_closeGathering isFree_ignoresClosing, noFree, lru.trans noOther]

theorem gatherAnew_refused (h : WriteLineStands tr.slot tr.hostLine u ∨ NoWriteLine u) :
    gatherAnew tr bytes u = (.retry, closeGathering tr.slot u) := by
  unfold gatherAnew
  by_cases stands : WriteLineStands tr.slot tr.hostLine u
  · simp only [writeLineStands_iff.mp stands, if_true]
  · obtain ⟨noFree, noOther⟩ := h.resolve_left stands
    rw [writeLineStands_iff] at stands
    simp only [if_neg stands, takeLine_nothing noFree noOther]

/-- A new GATHERING line takes a line that was FREE or has been reclaimed (R25, R33 step 4). -/
theorem gatherAnew_binds {i : LineIx} (stands : ¬ WriteLineStands tr.slot tr.hostLine u) (takes : TakesWriteLine i u) :
    ∃ taken, (taken = closeGathering tr.slot u ∨ taken = setLine i .free (closeGathering tr.slot u)) ∧
      gatherAnew tr bytes u = (.complete [], mergeInto i tr.offset bytes (bindGathering i tr.binding taken)) := by
  rw [writeLineStands_iff] at stands
  obtain free | ⟨noFree, rest, order⟩ := takes
  · exact ⟨_, .inl rfl, by simp only [gatherAnew, if_neg stands, takeLine_free free]⟩
  · exact ⟨_, .inr rfl, by simp only [gatherAnew, if_neg stands, takeLine_reclaims noFree order]⟩

end

/-- What the binding of a new GATHERING line leaves (R33 step 4). -/
theorem bindGathering_binds {i : LineIx} {s taken : State} (b : Binding) (h : taken = s ∨ taken = setLine i .free s) :
    DrainsKept s (bindGathering i b taken) ∧ (bindGathering i b taken).staging.lru = s.staging.lru.filter (· ≠ i) ∧
      (bindGathering i b taken).staging.closedOrder = s.staging.closedOrder ∧
      (bindGathering i b taken).now = s.now ∧ OnlyChanges [.staging] s (bindGathering i b taken) ∧
      (∀ j, j ≠ i → lineAt j (bindGathering i b taken) = lineAt j s) ∧
      ∃ d, lineAt i (bindGathering i b taken) = .gathering b (freeBytes taken.freeIndex) 0 d := by
  have others : ∀ j, j ≠ i → lineAt j taken = lineAt j s := fun j other => by
    obtain rfl | rfl := h
    · rfl
    · rw [lineAt_setLine, if_neg (Ne.symm other)]
  refine ⟨?_, ?_, ?_, ?_, ?_, fun j other => ?_, taken.now + taken.staging.gatherIdle, ?_⟩
  · obtain rfl | rfl := h <;> exact drainsKept_of rfl rfl rfl rfl rfl rfl
  · obtain rfl | rfl := h <;> simp [bindGathering, setLine, Line.reclaimable]
  · obtain rfl | rfl := h <;> rfl
  · obtain rfl | rfl := h <;> simp
  · obtain rfl | rfl := h <;> simp [onlyChanges_iff]
  · rw [bindGathering, lines_setFreeIndex, lineAt_setLine, if_neg (Ne.symm other), others j other]
  · rw [bindGathering, lines_setFreeIndex, lineAt_setLine, if_pos rfl]

/-! ### Direct writes (R34) -/

section

variable {tr : Translation} {bytes : List Byte} {r : State}

theorem directWrite_held (hold : r.tracker.writeHold = true) :
    directWrite tr bytes r = (.retry, closeGathering tr.slot r) := by
  simp [directWrite, hold]

/-- What a direct write waits for, on its lines closed and freed (R34 step 4). -/
theorem directWrite_mustWait :
    WriteMustWait tr.slot r ↔
      ¬ ((closeGathering tr.slot (gaveUp (Line.ofSlotLine tr.slot tr.hostLine) r)).staging.closedOrder = [] ∧
        unreservedRoom (closeGathering tr.slot (gaveUp (Line.ofSlotLine tr.slot tr.hostLine) r)) = true) := by
  have commutes := closeGathering_freeReads (ofSlotLine_ignoresClosing tr.slot tr.hostLine) tr.slot r
  rw [← freeReads_eq_gaveUp, commutes]
  obtain ⟨_, order, _⟩ := closeGathering_shuts tr.slot r
  have room : unreservedRoom (freeReads (Line.ofSlotLine tr.slot tr.hostLine) (closeGathering tr.slot r)) = unreservedRoom r := by
    simp [unreservedRoom, postedRoom, endWaiting]
  have closed : (freeReads (Line.ofSlotLine tr.slot tr.hostLine) (closeGathering tr.slot r)).staging.closedOrder =
      (closeGathering tr.slot r).staging.closedOrder := by simp
  rw [writeMustWait_iff order, closed, room, not_and_or, Bool.not_eq_true]

theorem directWrite_open (hold : r.tracker.writeHold = false) :
    directWrite tr bytes r =
      if (closeGathering tr.slot (gaveUp (Line.ofSlotLine tr.slot tr.hostLine) r)).staging.closedOrder = [] ∧
          unreservedRoom (closeGathering tr.slot (gaveUp (Line.ofSlotLine tr.slot tr.hostLine) r)) = true then
        (.complete [], postWrite tr.slot tr.hostAddress bytes false
          (closeGathering tr.slot (gaveUp (Line.ofSlotLine tr.slot tr.hostLine) r)))
      else (.retry, closeGathering tr.slot (gaveUp (Line.ofSlotLine tr.slot tr.hostLine) r)) := by
  have commutes := closeGathering_freeReads (ofSlotLine_ignoresClosing tr.slot tr.hostLine) tr.slot r
  have open' : ¬ (closeGathering tr.slot r).tracker.writeHold = true := by simp [hold]
  rw [← freeReads_eq_gaveUp, commutes, directWrite]
  exact if_neg open'

/-- A write that need not wait closes nothing: its slot has no GATHERING line (R34 step 4). -/
theorem closeGathering_of_free {slot : Slot} {p : Line → Bool} (free : ¬ WriteMustWait slot r) :
    closeGathering slot (gaveUp p r) = gaveUp p r := by
  refine closeGathering_none fun j gathers => ?_
  rw [← freeReads_eq_gaveUp, lineAt_freeReads] at gathers ⊢
  rw [isGathering_given] at gathers
  obtain ⟨_, same⟩ := isWrite_given p (lineAt j r)
  rw [same (by obtain ⟨b, data, v, d, line⟩ := isGathering_iff.mp gathers; simp [line, Line.isWrite])]
  by_contra own
  exact free (.inr (.inl ⟨j, gathers, by simpa using own⟩))

end

theorem postWrite_changes (slot : Slot) (h : HostAddr) (bytes : List Byte) (locked : Bool) (s : State) :
    OnlyChanges [.tracker] s (postWrite slot h bytes locked s) ∧ (postWrite slot h bytes locked s).staging = s.staging := by
  simp [onlyChanges_iff]

end Sys2Proof.Machine

namespace Sys2Proof

open Sys2Proof.Machine

/-- Settles O43: buffered, by write hold and by the slot's GATHERING line; direct, by write hold and by what it waits for. -/
theorem unlockedWritesAreAccepted : Obligations.UnlockedWritesAreAccepted := by
  refine ⟨?_, ?_, ?_, ?_⟩
  · intro slot a bytes tr s r translates mode on hold
    obtain rfl := slot_of_translate translates.2.2
    obtain ⟨t, run, answered, slots, answer⟩ := exec_translates translates
      ((serve_bufferedWrite _ mode on).trans (bufferedWrite_held hold))
    exact ⟨t, run, answer, answered, slots⟩
  · intro slot a bytes tr i b data v d s r translates mode on hold found line
    obtain rfl := slot_of_translate translates.2.2
    obtain ⟨t, run, answered, slots, answer⟩ := exec_translates translates
      ((serve_bufferedWrite _ mode on).trans (bufferedWrite_merges hold found))
    have staging := answer.1 .staging (by simp)
    obtain ⟨_, _, _, _, same, slot, host, _⟩ := gatheringFor_iff.mp (findLine_some found)
    rw [line] at same
    cases same
    have own : (lineAt i r).ofSlotLine tr.slot tr.hostLine = true := by
      simp [line, Line.ofSlotLine, Line.binding, slot, host]
    have written : lineAt i (freeReads (Line.ofSlotLine tr.slot tr.hostLine) r) = .gathering b data v d := by
      rw [lineAt_freeReads, given_other (by simp [line, Line.isRead]), line]
    have length : (bytes.take (blockLength a (.write bytes))).length = min bytes.length (64 - a.toNat % 64) :=
      List.length_take_of_le (Nat.min_le_left _ _)
    obtain ⟨drains, lru, others, partly, full⟩ := mergeInto_merges tr.offset (bytes.take (blockLength a (.write bytes))) written
    rw [length] at partly full
    have lines : ∀ j, lineAt j t = lineAt j (mergeInto i tr.offset (bytes.take (blockLength a (.write bytes)))
        (freeReads (Line.ofSlotLine tr.slot tr.hostLine) r)) := fun j => by rw [lineAt, staging]; rfl
    have freed : DrainsKept r (freeReads (Line.ofSlotLine tr.slot tr.hostLine) r) := freeReads_keepsDrains _ r
    have order : (freeReads (Line.ofSlotLine tr.slot tr.hostLine) r).staging.closedOrder = r.staging.closedOrder := by simp
    have present : (freeReads (Line.ofSlotLine tr.slot tr.hostLine) r).now +
        (freeReads (Line.ofSlotLine tr.slot tr.hostLine) r).staging.gatherIdle = r.now + r.staging.gatherIdle := by simp
    rw [present, order] at partly
    rw [order] at full
    refine ⟨t, run, ?_, answered, slots, drainsKept_congr staging (drainsKept_trans freed drains), ?_, fun j other read => ?_,
      fun j other read => ?_, fun part => ?_, fun whole => ?_⟩
    · exact onlyChanges_trans (d := [.bus]) (c := [.staging]) (by simp [onlyChanges_iff]) answer (by simp) (by simp)
    · refine (congrArg Staging.lru staging).trans (lru.trans ?_)
      simp only [freeReads, State.setStaging_staging, List.filter_filter]
      refine List.filter_congr fun j _ => ?_
      by_cases mine : j = i
      · simp [mine, own]
      · simp [mine]
    · rw [lines, others j other, lineAt_freeReads, given_read read]
    · rw [lines, others j other, lineAt_freeReads, given_other read]
    · rw [lines]
      obtain ⟨merged, kept⟩ := partly part
      exact ⟨merged, (congrArg Staging.closedOrder staging).trans kept⟩
    · rw [lines]
      obtain ⟨merged, kept⟩ := full whole
      exact ⟨merged, (congrArg Staging.closedOrder staging).trans kept⟩
  · intro slot a bytes w tr s r u translates mode on hold none hw hu
    obtain rfl := slot_of_translate translates.2.2
    have served := (serve_bufferedWrite (bytes.take (blockLength a (.write bytes))) mode on).trans
      (bufferedWrite_gathers hold none)
    rw [← hw, ← hu] at served
    have given : u = freeReads (Line.ofSlotLine tr.slot tr.hostLine) r := hu
    have gives : OnlyChanges [.staging] r u := by simp [onlyChanges_iff, given]
    have kept : DrainsKept r (closeGathering tr.slot u) :=
      drainsKept_trans (given ▸ freeReads_keepsDrains _ r) (closeGathering_keepsDrains tr.slot u)
    have closes : OnlyChanges [.staging] r (closeGathering tr.slot u) :=
      onlyChanges_trans gives (closeGathering_changes tr.slot u) (by simp) (by simp)
    obtain ⟨shuts, order, lru⟩ := closeGathering_shuts tr.slot u
    by_cases refused : WriteLineStands tr.slot tr.hostLine u ∨ NoWriteLine u
    · rw [gatherAnew_refused refused, hw] at served
      obtain ⟨t, run, answered, slots, answer⟩ := exec_translates translates served
      have staging := answer.1 .staging (by simp)
      obtain ⟨lines, _⟩ := linesShut_of staging
      refine ⟨t, run, onlyChanges_trans closes answer (by simp) (by simp), slots, drainsKept_congr staging kept,
        fun _ => ⟨answered, lines⟩, fun i stands takes => ?_⟩
      obtain ⟨noFree, noOther⟩ := refused.resolve_left stands
      obtain free | ⟨_, rest, other⟩ := takes
      · simp [noFree] at free
      · simp [noOther] at other
    · simp only [not_or] at refused
      obtain ⟨stands, some⟩ := refused
      obtain ⟨i, takes⟩ := takesWriteLine_of some
      obtain ⟨taken, origin, binds⟩ := gatherAnew_binds (bytes := w) stands takes
      rw [binds, hw] at served
      obtain ⟨t, run, answered, slots, answer⟩ := exec_translates translates served
      rw [← hw] at answer
      have staging := answer.1 .staging (by simp)
      obtain ⟨bound, lru', order', present, frame, others, d, line⟩ := bindGathering_binds tr.binding origin
      obtain ⟨merged, lru'', others', partly, full⟩ := mergeInto_merges tr.offset w line
      have lines : ∀ j, lineAt j t = lineAt j (mergeInto i tr.offset w (bindGathering i tr.binding taken)) := fun j => by
        rw [lineAt, staging]
        rfl
      have closed := congrArg Staging.closedOrder staging
      have drains := drainsKept_trans kept bound
      obtain ⟨⟨_, _, gatherIdle⟩, _⟩ := id drains
      have deadline : (bindGathering i tr.binding taken).now + (bindGathering i tr.binding taken).staging.gatherIdle =
          r.now + r.staging.gatherIdle := by rw [present, gatherIdle, closes.1 .time (by simp)]
      have fresh : (0 : BitVec 64) ||| byteSpan tr.offset w.length = byteSpan tr.offset w.length := BitVec.zero_or
      rw [fresh, deadline, order'] at partly
      rw [fresh, order'] at full
      refine ⟨t, run, ?_, slots, drainsKept_congr staging (drainsKept_trans drains merged), fun none => ?_, fun j _ takes' => ?_⟩
      · exact onlyChanges_trans (onlyChanges_trans (onlyChanges_trans closes frame (e := [.staging]) (by simp) (by simp))
          (d := [.staging]) (e := [.staging]) (by simp [onlyChanges_iff]) (by simp) (by simp)) answer (by simp) (by simp)
      · exact absurd none (not_or.mpr ⟨stands, some⟩)
      · obtain rfl := takesWriteLine_unique takes takes'
        refine ⟨answered, fun j other => ?_, ?_, freeBytes taken.freeIndex, fun part => ?_, fun whole => ?_⟩
        · rw [lines, others' j other, others j other, shuts]
        · refine (congrArg Staging.lru staging).trans (lru''.trans ?_)
          rw [lru', List.filter_filter, lru]
          simp
        · obtain ⟨new, same⟩ := partly part
          obtain ⟨closing, perm, appended⟩ := order
          exact ⟨(lines i).trans new, closing, perm, (closed.trans same).trans appended⟩
        · obtain ⟨new, same⟩ := full whole
          obtain ⟨closing, perm, appended⟩ := order
          exact ⟨(lines i).trans new, closing, perm, (closed.trans same).trans (congrArg (· ++ [i]) appended)⟩
  · intro slot a bytes w tr s r u translates mode hw hu
    obtain rfl := slot_of_translate translates.2.2
    have served := serve_directWrite (bytes.take (blockLength a (.write bytes))) mode
    rw [← hw] at served
    have gives : OnlyChanges [.staging] r u := by
      rw [hu, ← freeReads_eq_gaveUp]
      simp [onlyChanges_iff]
    have tracker : u.tracker = r.tracker := gives.1 .tracker (by simp)
    cases hold : r.tracker.writeHold with
    | true =>
      rw [directWrite_held hold, hw] at served
      obtain ⟨t, run, answered, slots, answer⟩ := exec_translates translates served
      obtain ⟨shuts, settings, marks, drains⟩ := linesShut_of (answer.1 .staging (by simp))
      exact ⟨t, run, slots, fun _ => ⟨onlyChanges_trans (closeGathering_changes tr.slot r) answer (by simp) (by simp), answered,
        shuts, settings, marks, drains⟩, by simp, by simp⟩
    | false =>
      rw [directWrite_open hold, ← hu] at served
      by_cases waits : WriteMustWait tr.slot r
      · rw [if_neg (hu ▸ directWrite_mustWait.mp waits), hw] at served
        obtain ⟨t, run, answered, slots, answer⟩ := exec_translates translates served
        have staging := answer.1 .staging (by simp)
        obtain ⟨shuts, _⟩ := linesShut_of staging
        refine ⟨t, run, slots, by simp, fun _ _ => ⟨?_, answered, shuts, drainsKept_congr staging ?_⟩,
          fun _ free => absurd waits free⟩
        · exact onlyChanges_trans (onlyChanges_trans gives (closeGathering_changes tr.slot u) (e := [.staging]) (by simp) (by simp))
            answer (by simp) (by simp)
        · exact drainsKept_trans (hu ▸ freeReads_keepsDrains _ r) (closeGathering_keepsDrains tr.slot u)
      · rw [if_pos (hu ▸ not_not.mp (mt directWrite_mustWait.mpr waits)),
          (hu ▸ closeGathering_of_free waits : closeGathering tr.slot u = u), hw] at served
        obtain ⟨t, run, answered, slots, answer⟩ := exec_translates translates served
        obtain ⟨posts, staging⟩ := postWrite_changes tr.slot tr.hostAddress (bytes.take (blockLength a (.write bytes))) false u
        refine ⟨t, run, slots, by simp, fun _ must => absurd must waits, fun _ _ => ⟨?_, answered,
          Eq.trans (answer.1 .staging (by simp)) staging, freeBytes u.freeIndex, Eq.trans (answer.1 .tracker (by simp)) ?_⟩⟩
        · exact onlyChanges_trans (onlyChanges_trans gives posts (e := [.staging, .tracker]) (by simp) (by simp)) answer (by simp)
            (by simp)
        · rw [postWrite_tracker, tracker, hw]
          rfl

end Sys2Proof
end
